-- ==== Sys2Proof/Word.lean ====
section
/-! DEFINITION. The word types of the codec block (00_scope R7: the widths 16, 8, 4 and 2 are structural). -/

namespace Sys2Proof

/-- A word of the link: 16 bits, bit 0 the least significant (30_encoding R50). -/
abbrev Word := BitVec 16

/-- A data byte: 8 bits (20_memory R30). -/
abbrev Byte := BitVec 8

end Sys2Proof
end

