-- ==== Sys2Proof/Config.lean ====
section
/-! DEFINITION. The implementation parameters of the block (00_scope R6) and the free values the spec leaves to the
environment. -/

namespace Sys2Proof

/-- The parameters of one block (00_scope R6). A machine carries one `Config` in its state and no step changes it
(DESIGN CHOICE, safe: log 1), so that what is proved of every state is proved of every admissible parameter. -/
structure Config where
  /-- `C`, the Ring Buffer capacity in byte slots. -/
  capacity : Nat
  /-- `MAX_WRITE`, the greatest length of a block `write`. -/
  maxWrite : Nat
  /-- `MISS_W`, the width in bits of `maxMisses` and `miss`. -/
  missW : Nat
  /-- `LEN_W`, the width in bits of the signed `length` operand of `read`. -/
  lenW : Nat
  /-- `TAG_READ_DATA`. -/
  tagReadData : BitVec 2
  /-- `TAG_READ_CONF`. -/
  tagReadConf : BitVec 2
  /-- `TAG_WRITE_DATA`. -/
  tagWriteData : BitVec 2
  /-- `TAG_WRITE_CONF`. -/
  tagWriteConf : BitVec 2
  /-- `R_BIT`, the position of `R` in a reply word. -/
  rBit : Nat
  /-- `T_BIT`, the position of `T` in a reply word. -/
  tBit : Nat
  /-- `RM_BIT`, the position of the receiver-interrupt-mask bit in the write-config payload. -/
  rmBit : Nat
  /-- `BAUD_LO`, the lowest bit of the baud field in the write-config payload. -/
  baudLo : Nat
  /-- `XCHG_CAN_FAIL`: whether the transport primitive may report failure. -/
  xchgCanFail : Bool
  /-- `bpw`, the bits-per-word of the SPI handle: opaque, no rule reads it. -/
  bpw : Nat
  /-- `busSpeedHz`, the clock speed of the SPI handle: opaque, no rule reads it. -/
  busSpeedHz : Nat
  deriving DecidableEq, Repr

/-- The default of every parameter (00_scope R6). The tags and bit positions are the spec's own defaults, which it
takes from general knowledge of the family (PRESUMED by the spec: log 2). R6 gives `bpw` and `busSpeedHz` no value
("opaque"); 0 stands for them here (DESIGN CHOICE, unsafe: log 32). -/
def Config.standard : Config where
  capacity := 4096
  maxWrite := 4096
  missW := 32
  lenW := 32
  tagReadData := 0b00
  tagReadConf := 0b01
  tagWriteData := 0b10
  tagWriteConf := 0b11
  rBit := 15
  tBit := 14
  rmBit := 10
  baudLo := 0
  xchgCanFail := true
  bpw := 0
  busSpeedHz := 0

/-- The width of `head` and `tail`, `ceil(log2(C))` (00_scope R6). -/
def Config.idxW (cfg : Config) : Nat := Nat.log2 (cfg.capacity - 1) + 1

/-- The constraints of the table of 00_scope R6. That the baud field lies in the 14-bit payload and apart from `RM`
is read from R53 (DEDUCED, safe: log 3). -/
abbrev Config.WF (cfg : Config) : Prop :=
  2 ≤ cfg.capacity ∧ 1 ≤ cfg.maxWrite ∧ 1 ≤ cfg.missW ∧ 2 ≤ cfg.lenW ∧
  [cfg.tagReadData, cfg.tagReadConf, cfg.tagWriteData, cfg.tagWriteConf].Nodup ∧
  (8 ≤ cfg.rBit ∧ cfg.rBit ≤ 15) ∧ (8 ≤ cfg.tBit ∧ cfg.tBit ≤ 15) ∧ cfg.rBit ≠ cfg.tBit ∧
  (4 ≤ cfg.rmBit ∧ cfg.rmBit ≤ 13) ∧ cfg.baudLo + 3 ≤ 13 ∧
  (cfg.rmBit < cfg.baudLo ∨ cfg.baudLo + 3 < cfg.rmBit)

/-- What the environment gives back for one exchange: a reply word, or the token `fail` (20_memory R35). -/
inductive Answer where
  | word (r : Word)
  | fail
  deriving DecidableEq, Repr, Inhabited

/-- One exchange as the transport port shows it: the word sent and what came back. -/
structure Exchange where
  sent : Word
  got : Answer
  deriving DecidableEq, Repr

/-- The opaque session parameters (10_state R19): the transport handle, bits-per-word and bus speed. No rule reads
them. `open` takes the last two from the parameters of the block (00_scope R6). -/
structure Session where
  handle : Nat
  bpw : Nat
  busSpeedHz : Nat
  deriving DecidableEq, Repr, Inhabited

/-- FREE VALUE (log 7): the environment's answer to the next exchange, given all the exchanges before it and the word
sent. 20_memory R37: it may return any reply word, or `fail`, whatever was sent and whatever it returned before. -/
opaque Config.envAnswer : List Exchange → Word → Answer

/-- FREE VALUE (log 24): the reply word of an environment that may not report failure (`XCHG_CAN_FAIL` false). -/
opaque Config.envWord : List Exchange → Word → Word

/-- FREE VALUE (log 8): whether the external collaborator's n-th handle operation succeeds (93 U16). -/
opaque Config.handleOk : Nat → Bool

/-- FREE VALUE (log 9): the transport handle the n-th handle operation brings (10_state R19: opaque). -/
opaque Config.handle : Nat → Nat

/-- FREE VALUE (log 5): what a slot no `push` has written holds, given the count of handle operations and the slot
(10_state R15: no defined value). -/
opaque Config.unwrittenSlot : Nat → Nat → Byte

end Sys2Proof
end

