-- ==== Sys2Proof/Syntax.lean ====
section
/-! DEFINITION. The rows of spec/opcode_table.json as one inductive type: the four command words the block sends, the
reply word it receives, the eight host operations, and the unassigned host codes. -/

namespace Sys2Proof

/-- One constructor per row of spec/opcode_table.json. -/
inductive Instr where
  /-- `READ_DATA`: the read-data command word (30_encoding R56). -/
  | readData
  /-- `READ_CONF`: the read-config command word (30_encoding R54). -/
  | readConf
  /-- `WRITE_DATA`: the write-data command word with its data byte (30_encoding R55). -/
  | writeData (d : Byte)
  /-- `WRITE_CONF`: the write-config command word as `open` builds it, with its baud code (30_encoding R53). -/
  | writeConf (baud : BitVec 4)
  /-- `REPLY`: the reply word (30_encoding R57). Its operand is the whole word: the fields `R`, `T` and `data` are
  read from it by the three decode functions of 40_codec R74 to R76, and every word is legal. -/
  | reply (r : Word)
  /-- `open` (45_session R125). -/
  | openSession (baud : BitVec 4) (maxMisses : Nat)
  /-- `close` (45_session R126). -/
  | closeSession
  /-- `putByte` (43_byte_api R101). -/
  | putByte (b : Byte)
  /-- `getByte` (43_byte_api R103). -/
  | getByte
  /-- `available` (43_byte_api R104). -/
  | available
  /-- `clear` (43_byte_api R105). -/
  | clear
  /-- `write` (44_block_api R115): its operand `n` is the length of `bytes`. -/
  | write (bytes : List Byte)
  /-- `read` (44_block_api R117): a signed length. -/
  | read (length : Int)
  /-- `HOP_UNASSIGNED`: a host request with select code `0x8 + low` (30_encoding R62). -/
  | hopUnassigned (low : BitVec 3)
  deriving DecidableEq, Repr

/-- The three formats of 30_encoding R50 and R61, told apart by the port a bit pattern is on: a command word is sent
on the link, a reply word is received on the link, a request comes on the host port. -/
inductive Format where
  | cw
  | rw
  | hop
  deriving DecidableEq, Repr

/-- The format of each row (the column "format" of spec/opcode_table.json). -/
def Instr.format : Instr → Format
  | .readData => .cw
  | .readConf => .cw
  | .writeData _ => .cw
  | .writeConf _ => .cw
  | .reply _ => .rw
  | .openSession _ _ => .hop
  | .closeSession => .hop
  | .putByte _ => .hop
  | .getByte => .hop
  | .available => .hop
  | .clear => .hop
  | .write _ => .hop
  | .read _ => .hop
  | .hopUnassigned _ => .hop

/-- The four command words a tag names (30_encoding R65). -/
inductive CommandKind where
  | readData
  | readConf
  | writeData
  | writeConf
  deriving DecidableEq, Repr

/-- Which of the four command words a row is; none for the rows that are no command word. -/
def Instr.commandKind : Instr → Option CommandKind
  | .readData => some .readData
  | .readConf => some .readConf
  | .writeData _ => some .writeData
  | .writeConf _ => some .writeConf
  | .reply _ => none
  | .openSession _ _ => none
  | .closeSession => none
  | .putByte _ => none
  | .getByte => none
  | .available => none
  | .clear => none
  | .write _ => none
  | .read _ => none
  | .hopUnassigned _ => none

/-- The host operation `read` with no operand is `read 0` (44_block_api R118). -/
def Instr.readDefault : Instr := .read 0

end Sys2Proof
end

