-- ==== Sys2Proof/Machine/Codec.lean ====
section
/-! DEFINITION. The Protocol Codec (40_codec): seven pure, total functions on 16-bit words (R77), the payload `open`
builds (30_encoding R53), and the order of a word's bytes and bits on the link (20_memory R32, R33). -/

namespace Sys2Proof.Machine

/-- A command word: the 2-bit tag in bits 15:14, the payload in bits 13:0 (30_encoding R51). -/
def commandOf (tag : BitVec 2) (payload : BitVec 14) : Word := tag ++ payload

/-- 40_codec R70. -/
def encodeReadData (cfg : Config) : Word := commandOf cfg.tagReadData 0

/-- 40_codec R71: the byte lands in bits 7:0, bits 13:8 are 0 (30_encoding R55, R58). -/
def encodeWriteData (cfg : Config) (byte : Byte) : Word := commandOf cfg.tagWriteData (byte.setWidth 14)

/-- 40_codec R72. -/
def encodeReadConfig (cfg : Config) : Word := commandOf cfg.tagReadConf 0

/-- 40_codec R73: any 14-bit payload. -/
def encodeWriteConfig (cfg : Config) (bits : BitVec 14) : Word := commandOf cfg.tagWriteConf bits

/-- The payload `open` passes: `(1 << RM_BIT) | (baud << BAUD_LO)`, every other bit 0 (30_encoding R53, R59). -/
def openPayload (cfg : Config) (baud : BitVec 4) : BitVec 14 :=
  (1#14 <<< cfg.rmBit) ||| (baud.setWidth 14 <<< cfg.baudLo)

/-- 40_codec R74: the transient flag `R`. -/
def decodeReceiverHasData (cfg : Config) (word : Word) : Bool := word.getLsbD cfg.rBit

/-- 40_codec R75: the transient flag `T`. -/
def decodeTransmitterReady (cfg : Config) (word : Word) : Bool := word.getLsbD cfg.tBit

/-- 40_codec R76: the low 8 bits. -/
def decodeDataByte (word : Word) : Byte := word.setWidth 8

/-- A command word is recognised by its two high bits alone (30_encoding R65). The four tags are distinct (00_scope R6)
and two bits have four values, so the last tag needs no test. -/
def commandKind (cfg : Config) (w : Word) : CommandKind :=
  if w.extractLsb' 14 2 = cfg.tagReadData then .readData
  else if w.extractLsb' 14 2 = cfg.tagReadConf then .readConf
  else if w.extractLsb' 14 2 = cfg.tagWriteData then .writeData
  else .writeConf

/-- The word the block sends for a command row (30_encoding R53 to R56); none for the other rows. -/
def commandWord (cfg : Config) : Instr → Option Word
  | .readData => some (encodeReadData cfg)
  | .readConf => some (encodeReadConfig cfg)
  | .writeData d => some (encodeWriteData cfg d)
  | .writeConf baud => some (encodeWriteConfig cfg (openPayload cfg baud))
  | _ => none

/-- The bytes of a word on the link, the first sent or received first: bits 15:8, then bits 7:0 (20_memory R32). -/
def linkBytes (w : Word) : List Byte := [w.extractLsb' 8 8, w.extractLsb' 0 8]

/-- The word two link bytes carry, the first the more significant (20_memory R32). -/
def wordOfLink (first second : Byte) : Word := first ++ second

/-- The bits of a word on the link, bit 15 first (20_memory R33; PRESUMED by the spec: log 29). No step reads it. -/
def linkBits (w : Word) : List Bool := (List.range 16).map fun k => w.getLsbD (15 - k)

end Sys2Proof.Machine
end

