-- ==== Sys2Proof/Machine/State.lean ====
section
/-! DEFINITION. The complete state of one codec block (10_state R10), its ports and oracles as plain data, the reasons a
step can stop, and the state after reset (10_state R26). -/

namespace Sys2Proof.Machine

/-- The sequencer register `phase` (46_sequencer R135). -/
inductive Phase where
  /-- No operation in progress. -/
  | idle
  /-- `open` in progress. -/
  | cfg
  /-- A Drain Loop in progress on behalf of `ret`. -/
  | drain
  /-- The wait loop of `putByte`, about to ask for status. -/
  | poll
  /-- The wait loop of `putByte`, single drain step after a status with `R = 1`. -/
  | step
  /-- `putByte` about to transmit `txb`. -/
  | send
  deriving DecidableEq, Repr

/-- The sequencer register `ret`: which operation a `DRAIN` phase serves (10_state R22). -/
inductive Ret where
  | get
  | avail
  | clear
  | put
  deriving DecidableEq, Repr

/-- The error kinds (60_exceptions R156). -/
inductive Err where
  | notOpen
  | alreadyOpen
  | validation
  | overrun
  | ioError
  deriving DecidableEq, Repr

/-- What an operation delivers on the host port (46_sequencer R147): `Ok`, a value, or an error. -/
inductive Result where
  | ok
  /-- `some b` or `none`, of `getByte`. -/
  | byte (b : Option Byte)
  /-- A count, of `available`. -/
  | count (n : Nat)
  /-- A byte sequence, of `read`. -/
  | bytes (xs : List Byte)
  | error (e : Err)
  deriving DecidableEq, Repr

/-- Reasons to stop with a fault. THERE IS NONE: 60_exceptions R177, R179 and 46_sequencer R148 say that every input
has one specified outcome and that nothing halts the block or makes it stuck; its errors are results (R155). Safe
(log 23). -/
inductive Fault : Type
  deriving DecidableEq, Repr

/-- Reasons to give an instruction no meaning. No step of this model answers one. -/
inductive Refusal where
  /-- Raised by no arm: every row of the table has its meaning. Safe. -/
  | notModelled (mnemonic : String)
  deriving DecidableEq, Repr

/-- The state of one block. The fields up to `out` are those of 10_state R10; the others are the model's own: the
parameters, the ports and the oracles (INVENTORY.md, State). -/
structure State where
  /-- The parameters of 00_scope R6; constant. -/
  cfg : Config
  /-- The session flag `open` (10_state R11). -/
  isOpen : Bool
  /-- The sticky overrun flag (10_state R12). -/
  ovr : Bool
  /-- The next slot to write (10_state R13). -/
  head : Nat
  /-- The oldest unread slot (10_state R14). -/
  tail : Nat
  /-- The written slots of the Ring Buffer (10_state R15). -/
  buf : List Host.Cell
  /-- The retry budget (10_state R17). -/
  maxMisses : Nat
  /-- The Miss Counter (10_state R18). -/
  miss : Nat
  /-- The opaque session parameters, while a session holds them (10_state R19). -/
  session : Option Session
  /-- The sequencer registers (10_state R22). -/
  phase : Phase
  ret : Ret
  /-- The byte a `putByte` will transmit. -/
  txb : Byte
  /-- The request being served. -/
  arg : Instr
  /-- How many bytes a `write` has sent. -/
  bi : Nat
  /-- The bytes a `read` has collected. -/
  out : List Byte
  /-- The reset input (70_reset R185), sampled by the next step. -/
  rst : Bool
  /-- The requests the host will make, one at a time (20_memory R44). -/
  requests : List Instr
  /-- The results delivered to the host, oldest first (46_sequencer R147). -/
  delivered : List Result
  /-- The environment's scripted answers to the exchanges to come; when there is none, the free value of Config
  answers (20_memory R37). -/
  answers : List Answer
  /-- Every exchange made, oldest first (20_memory R39). -/
  wire : List Exchange
  /-- The scripted outcomes of the external collaborator's handle operations to come; when there is none, the free
  value of Config decides (93 U16). -/
  handles : List Bool
  /-- How many handle operations the collaborator has been asked for. -/
  handleOps : Nat
  deriving DecidableEq, Repr

/-- The state after reset (10_state R26, 70_reset R185): closed, no fault, empty ring, IDLE. The registers R26 leaves
unspecified hold the values named in log 4 (DESIGN CHOICE, unsafe); no slot of the ring has a value (log 5). -/
def State.reset : State where
  cfg := Config.standard
  isOpen := false
  ovr := false
  head := 0
  tail := 0
  buf := []
  maxMisses := 0
  miss := 0
  session := none
  phase := .idle
  ret := .get
  txb := 0
  arg := .closeSession
  bi := 0
  out := []
  rst := false
  requests := []
  delivered := []
  answers := []
  wire := []
  handles := []
  handleOps := 0

end Sys2Proof.Machine
end

