-- ==== Sys2Proof/Machine/Flags.lean ====
section
/-! DEFINITION. The flags that are computed and not stored (10_state R23): `R` and `T` of a reply word, *empty* and
*full* of the Ring Buffer; and the status code of a result (60_exceptions R156). -/

namespace Sys2Proof.Machine

/-- The flag `R` of a reply: the receiver has a byte ready. -/
def State.replyR (s : State) (r : Word) : Bool := decodeReceiverHasData s.cfg r

/-- The flag `T` of a reply: the transmitter can take a byte. -/
def State.replyT (s : State) (r : Word) : Bool := decodeTransmitterReady s.cfg r

/-- An index advanced by one modulo `C` (10_state R13, R14). -/
def State.advance (s : State) (i : Nat) : Nat := (i + 1) % s.cfg.capacity

/-- *empty*: `head == tail` (10_state R16 (b)). -/
def State.empty (s : State) : Bool := s.head == s.tail

/-- *full*: `(head + 1) mod C == tail` (10_state R16 (c)). -/
def State.full (s : State) : Bool := s.advance s.head == s.tail

/-- The code of an error kind (60_exceptions R156). -/
def Err.code : Err → Nat
  | .notOpen => 1
  | .alreadyOpen => 2
  | .validation => 3
  | .overrun => 4
  | .ioError => 5

/-- The status code every result carries (60_exceptions R156). -/
def Result.code : Result → Nat
  | .error e => e.code
  | .ok => 0
  | .byte _ => 0
  | .count _ => 0
  | .bytes _ => 0

end Sys2Proof.Machine
end

