-- ==== Sys2Proof/Machine/Memory.lean ====
section
/-! DEFINITION. The ring space (20_memory R30, R31) as plain data: the written slots, by rising slot number. A slot that
is not listed has no value (10_state R15: no defined value), so every listed entry differs from what an unlisted slot
reads as. -/

namespace Sys2Proof.Machine

/-- Slot numbers strictly rise: the canonical form, so that equal contents are equal lists. -/
def Memory.wf : List Host.Cell → Bool
  | [] => true
  | [_] => true
  | (a, _) :: (b, v) :: rest => decide (a < b) && Memory.wf ((b, v) :: rest)

/-- The byte of a slot; none where nothing has been written. -/
def Memory.read : List Host.Cell → Nat → Option Byte
  | [], _ => none
  | (a, v) :: rest, i => if a = i then some v else Memory.read rest i

/-- Replace the byte of one slot, keeping the canonical form. -/
def Memory.write : List Host.Cell → Nat → Byte → List Host.Cell
  | [], i, x => [(i, x)]
  | (a, v) :: rest, i, x =>
    if i < a then (i, x) :: (a, v) :: rest
    else if a = i then (i, x) :: rest
    else (a, v) :: Memory.write rest i x

end Sys2Proof.Machine
end

