-- ==== Sys2Proof/Machine/Operands.lean ====
section
/-! DEFINITION. The operand forms of the host operations (30_encoding R58, R61) and of the latched request `arg`. An
operand port has as many bits as R61 gives it: a value that does not fit is taken modulo its width (DESIGN CHOICE,
safe: log 18; no encodable request carries one). -/

namespace Sys2Proof.Machine

/-- The `maxMisses` operand of `open`: `MISS_W` bits, unsigned (10_state R17). -/
def missesOperand (cfg : Config) (mm : Nat) : Nat := mm % 2 ^ cfg.missW

/-- The `length` operand of `read`: `LEN_W` bits, two's complement (44_block_api R117). -/
def lengthOperand (cfg : Config) (len : Int) : Int := len.bmod (2 ^ cfg.lenW)

/-- `arg.baud` (46_sequencer R137). In `CFG` the request is an `open`; of another the code reads as 0 (log 26). -/
def argBaud : Instr → BitVec 4
  | .openSession baud _ => baud
  | _ => 0

/-- `arg.maxMisses` (46_sequencer R137). -/
def argMisses : Instr → Nat
  | .openSession _ mm => mm
  | _ => 0

/-- `arg.bytes`, when the request is a `write` (46_sequencer R143). -/
def argBytes : Instr → Option (List Byte)
  | .write bytes => some bytes
  | _ => none

/-- `arg.length`, when the request is a `read` (46_sequencer R139, R144). -/
def argLength : Instr → Option Int
  | .read len => some len
  | _ => none

/-- `bytes[i]` of a `write`: the sequencer reads it only below the length (46_sequencer R136, R143; log 26). -/
def byteAt (bytes : List Byte) (i : Nat) : Byte := bytes.getD i 0

/-- The magnitude of a negative `length` as a natural number: that of `-2^(LEN_W-1)` is `2^(LEN_W-1)` (R117). -/
def magnitude (len : Int) : Nat := len.natAbs

end Sys2Proof.Machine
end

