-- ==== Sys2Proof/Machine/Ops.lean ====
section
/-! DEFINITION. The named operations the meanings share: ring access and the Ring Buffer (20_memory R30, 42_ring_buffer),
the end of an operation with a result or an error (46_sequencer R147, 60_exceptions R155), the gate (45_session R127),
the transport primitive (20_memory R35) and the collaborator (45_session R125, R126), `capture` (41_drain R82), and
reset (70_reset R185). -/

namespace Sys2Proof.Machine

/-! ## Ring access -/

/-- `MemRead(i, 1)` (20_memory R30). A slot nothing has written gives a free value (log 5). -/
def State.memRead (s : State) (i : Nat) : Byte :=
  (Memory.read s.buf i).getD (Config.unwrittenSlot s.handleOps i)

/-- `MemWrite(i, 1, v)` (20_memory R30). -/
def State.memWrite (s : State) (i : Nat) (v : Byte) : State := { s with buf := Memory.write s.buf i v }

/-- The slot `head` addresses. Every reachable `head` is below `C`; an index register cannot address outside the ring
space (20_memory R30, R31; log 6). -/
def State.headSlot (s : State) : Nat := s.head % s.cfg.capacity

/-- The slot `tail` addresses. -/
def State.tailSlot (s : State) : Nat := s.tail % s.cfg.capacity

/-! ## The Ring Buffer -/

/-- The store of a successful `push`: slot `head`, then `head` advanced (42_ring_buffer R90, R96). -/
def State.store (s : State) (b : Byte) : State := { s.memWrite s.headSlot b with head := s.advance s.head }

/-- `push(byte)` (42_ring_buffer R90): in the full state `ovr` is set, nothing else changes, and `Overrun` is
raised. -/
def State.push (s : State) (b : Byte) : Option Err × State :=
  if s.full then (some .overrun, { s with ovr := true }) else (none, s.store b)

/-- `pop()` (42_ring_buffer R91). -/
def State.pop (s : State) : Option Byte × State :=
  if s.empty then (none, s) else (some (s.memRead s.tailSlot), { s with tail := s.advance s.tail })

/-- `len() = (head - tail) mod C`, never negative (42_ring_buffer R92). -/
def State.len (s : State) : Nat := (((s.head : Int) - (s.tail : Int)) % (s.cfg.capacity : Int)).toNat

/-- `resetEmpty()` (42_ring_buffer R93). -/
def State.resetEmpty (s : State) : State := { s with head := 0, tail := 0 }

/-! ## Completion and errors -/

/-- An operation completes: `phase <- IDLE`, and the result is delivered (46_sequencer R147, `done(v)`). -/
def State.done (s : State) (v : Result) : State := { s with phase := .idle, delivered := s.delivered ++ [v] }

/-- AN ERROR ENDS THE OPERATION (60_exceptions R155; 46_sequencer R147, `fail(E)`): `phase <- IDLE`, the error kind is
the result, nothing is saved and nothing is undone. There is no return from it: the block is in IDLE, ready for the
next request (R166). -/
def State.fail (s : State) (e : Err) : State := s.done (.error e)

/-- `gate()` (45_session R127): the error that refuses a gated operation, if any; `NotOpen` is tested first. -/
def State.gate (s : State) : Option Err :=
  if s.isOpen then (if s.ovr then some .overrun else none) else some .notOpen

/-- A request is accepted in IDLE only, and latched in `arg` (46_sequencer R136). One presented while an operation is
in progress is refused without effect (93 U17; log 11). -/
def State.accept (s : State) (request : Instr) (serve : State → State) : State :=
  if s.phase = .idle then serve { s with arg := request } else s

/-- `gate'`: go on when the gate passes, else fail (46_sequencer R136). -/
def State.gated (s : State) (serve : State → State) : State :=
  match s.gate with
  | some e => s.fail e
  | none => serve s

/-- Enter a Drain Loop with a fresh Miss Counter (46_sequencer R136, R142, R144; 10_state R18). -/
def State.startDrain (s : State) (ret : Ret) : State := { s with miss := 0, ret := ret, phase := .drain }

/-! ## The transport primitive -/

/-- What the environment answers to the word `w` (20_memory R35, R37): the next scripted answer, or the free value
when the script is empty. It is `fail` only if `XCHG_CAN_FAIL` (log 7, log 24). -/
def State.answer (s : State) (w : Word) : Answer :=
  match s.answers.head?.getD (Config.envAnswer s.wire w) with
  | .word r => .word r
  | .fail => if s.cfg.xchgCanFail then .fail else .word (Config.envWord s.wire w)

/-- The exchange has happened: the environment's move is used up, and the port shows the words. Nothing of the block's
own state changes between sending and receiving (20_memory R35). -/
def State.exchanged (s : State) (w : Word) (a : Answer) : State :=
  { s with answers := s.answers.tail, wire := s.wire ++ [⟨w, a⟩] }

/-- Whether the collaborator's next handle operation succeeds: scripted, or the free value (93 U16; log 8). -/
def State.handleOk (s : State) : Bool := s.handles.head?.getD (Config.handleOk s.handleOps)

/-- The collaborator has been asked once more. -/
def State.handleAsked (s : State) : State := { s with handles := s.handles.tail, handleOps := s.handleOps + 1 }

/-! ## Capturing a reply -/

/-- What `capture` and `drainStep` report. -/
inductive Captured where
  | hit
  | miss
  | raised (e : Err)
  deriving DecidableEq, Repr

/-- `capture(r)` (41_drain R82): a reply with `R = 1` has its data byte pushed. -/
def State.capture (s : State) (r : Word) : Captured × State :=
  if s.replyR r then
    match s.push (decodeDataByte r) with
    | (some e, t) => (.raised e, t)
    | (none, t) => (.hit, t)
  else (.miss, s)

/-! ## Sessions -/

/-- The state update of a successful `open` (45_session R125, 46_sequencer R137): the budget stored, the Ring Buffer
freshly allocated with every slot undefined, `ovr` cleared, the session parameters taken: the handle (log 9), and the
bits-per-word and bus speed of 00_scope R6. -/
def State.openEffect (s : State) (mm : Nat) : State :=
  { s with
    maxMisses := mm
    head := 0
    tail := 0
    buf := []
    ovr := false
    isOpen := true
    session := some ⟨Config.handle s.handleOps, s.cfg.bpw, s.cfg.busSpeedHz⟩ }

/-- The state update of `close` (45_session R126): only the flag falls, and the session parameters are released. -/
def State.closeEffect (s : State) : State := { s with isOpen := false, session := none }

/-! ## Reset -/

/-- The reset input takes effect (70_reset R185): the registers of 10_state R26 as after reset, an operation in progress
abandoned without a result, no exchange. The chip, the host and the collaborator are outside the block and are left
alone (R187; log 12). -/
def State.applyReset (s : State) : State :=
  { State.reset with
    cfg := s.cfg
    requests := s.requests
    delivered := s.delivered
    answers := s.answers
    wire := s.wire
    handles := s.handles
    handleOps := s.handleOps }

end Sys2Proof.Machine
end

