-- ==== Sys2Proof/Machine/BlockApi.lean ====
section
/-! DEFINITION. The meanings of the block operations: the acceptance of the request, after the gate (44_block_api R115,
R117; 46_sequencer R136). -/

namespace Sys2Proof.Machine

/-- `write(bytes)` (44_block_api R115): the length is checked before any exchange; then the first byte is sent. -/
def execWrite (bytes : List Byte) (s : State) : Host.Outcome State Fault Refusal :=
  .next
    (s.accept (.write bytes) fun s =>
      s.gated fun s =>
        if bytes.length = 0 then s.fail .validation
        else if s.cfg.maxWrite < bytes.length then s.fail .validation
        else { s with bi := 0, txb := byteAt bytes 0, phase := .poll })

/-- `read(length)` (44_block_api R117): whatever the length, at least one `getByte'` runs (46_sequencer R136). -/
def execRead (length : Int) (s : State) : Host.Outcome State Fault Refusal :=
  .next
    (s.accept (.read (lengthOperand s.cfg length)) fun s =>
      s.gated fun s => { s with out := [] }.startDrain .get)

end Sys2Proof.Machine
end

