-- ==== Sys2Proof/Machine/ByteApi.lean ====
section
/-! DEFINITION. The meanings of the byte operations: the acceptance of the request, after the gate (43_byte_api R100,
46_sequencer R136). The steps that follow are those of the phase entered. -/

namespace Sys2Proof.Machine

/-- `putByte(b)` (43_byte_api R101): the byte is latched and the wait loop begins. -/
def execPutByte (b : Byte) (s : State) : Host.Outcome State Fault Refusal :=
  .next (s.accept (.putByte b) fun s => s.gated fun s => { s with txb := b, phase := .poll })

/-- `getByte()` (43_byte_api R103): a Drain Loop, then a pop. -/
def execGetByte (s : State) : Host.Outcome State Fault Refusal :=
  .next (s.accept .getByte fun s => s.gated fun s => s.startDrain .get)

/-- `available()` (43_byte_api R104): a Drain Loop, then the count. -/
def execAvailable (s : State) : Host.Outcome State Fault Refusal :=
  .next (s.accept .available fun s => s.gated fun s => s.startDrain .avail)

/-- `clear()` (43_byte_api R105): a Drain Loop, then the Ring Buffer emptied. -/
def execClear (s : State) : Host.Outcome State Fault Refusal :=
  .next (s.accept .clear fun s => s.gated fun s => s.startDrain .clear)

end Sys2Proof.Machine
end

