-- ==== Sys2Proof/WellFormed.lean ====
section
/-! DEFINITION. Which operand values a row of the table can carry: the widths of 30_encoding R58, R61, 00_scope R6. -/

namespace Sys2Proof

/-- Why a term is no encodable instruction. -/
inductive FormError where
  /-- The `maxMisses` operand of `open` does not fit `MISS_W` bits (30_encoding R61). -/
  | missesTooWide
  /-- The `length` operand of `read` is outside the two's complement range of `LEN_W` bits (44_block_api R117). -/
  | lengthOutOfRange
  /-- A `write` of `2^32` bytes or more has no encoding in the model's request layout (DESIGN CHOICE, safe: log 19).
  Its meaning is still given. -/
  | writeTooLong
  deriving DecidableEq, Repr

/-- The first check a term fails, if any. -/
def Instr.formError (cfg : Config) : Instr → Option FormError
  | .openSession _ mm => if mm < 2 ^ cfg.missW then none else some .missesTooWide
  | .read len =>
    if -(2 ^ (cfg.lenW - 1) : Int) ≤ len ∧ len < (2 ^ (cfg.lenW - 1) : Int) then none else some .lengthOutOfRange
  | .write bytes => if bytes.length < 2 ^ 32 then none else some .writeTooLong
  | .readData => none
  | .readConf => none
  | .writeData _ => none
  | .writeConf _ => none
  | .reply _ => none
  | .closeSession => none
  | .putByte _ => none
  | .getByte => none
  | .available => none
  | .clear => none
  | .hopUnassigned _ => none

/-- The instruction is one the table's encodings can carry. -/
abbrev Instr.WF (cfg : Config) (i : Instr) : Prop := i.formError cfg = none

end Sys2Proof
end

