-- ==== Sys2Proof/Decode.lean ====
section
/-! DEFINITION. The decoder, total on any bytes, and the encoder. A bit pattern is read by the format of the port it is
on (30_encoding R50, R61): `cw` what the block sends, `rw` what it receives, `hop` what the host asks. A word on the
link is two bytes, the most significant first (20_memory R32). The spec gives a host request its 4-bit select code only
(R61); the layout of its operands in bytes is the model's (DESIGN CHOICE, safe: log 17). -/

namespace Sys2Proof

open Machine

/-- Why the decoder takes no instruction from some bytes. -/
inductive DecodeError where
  /-- The bytes end inside the word or the operands. -/
  | truncated
  /-- A command word with a payload the block never sends (30_encoding R59, R65). -/
  | unusedPayload
  /-- The byte of a select code or of a baud code has one of its high four bits set. -/
  | highBitsSet
  /-- An operand has bits above its width (`MISS_W` or `LEN_W`). -/
  | operandTooWide
  deriving DecidableEq, Repr

/-- `k` bytes of `n`, the most significant first. -/
def bytesOfNat : Nat → Nat → List Byte
  | 0, _ => []
  | k + 1, n => BitVec.ofNat 8 (n / 256 ^ k) :: bytesOfNat k n

/-- The number some bytes spell, the most significant first. -/
def natOfBytes (bytes : List Byte) : Nat := bytes.foldl (fun n b => n * 256 + b.toNat) 0

/-- The bytes an operand of `w` bits takes. -/
def operandBytes (w : Nat) : Nat := (w + 7) / 8

/-- The first `k` bytes and the rest. -/
def takeBytes (k : Nat) (bytes : List Byte) : Except DecodeError (List Byte × List Byte) :=
  if k ≤ bytes.length then .ok (bytes.take k, bytes.drop k) else .error .truncated

/-- An unsigned operand of `w` bits. -/
def takeOperand (w : Nat) (bytes : List Byte) : Except DecodeError (Nat × List Byte) :=
  match takeBytes (operandBytes w) bytes with
  | .error e => .error e
  | .ok (front, rest) => if natOfBytes front < 2 ^ w then .ok (natOfBytes front, rest) else .error .operandTooWide

/-- The signed value of a `w`-bit two's complement pattern (00_scope section 5, `sext_N`). -/
def signExtend (w : Nat) (n : Nat) : Int := (n : Int).bmod (2 ^ w)

/-- The select code of a host operation (30_encoding R61, R62). -/
def selectCode : Instr → Option (BitVec 4)
  | .openSession _ _ => some 0x0
  | .closeSession => some 0x1
  | .putByte _ => some 0x2
  | .getByte => some 0x3
  | .available => some 0x4
  | .clear => some 0x5
  | .write _ => some 0x6
  | .read _ => some 0x7
  | .hopUnassigned low => some (1#1 ++ low)
  | _ => none

/-- A command word back to its row: the tag alone tells which of the four it is (30_encoding R65), and the payload must
be one the block sends with it (R53 to R56, R59), since a row carries no other. -/
def decodeCommand (cfg : Config) (w : Word) : Except DecodeError Instr :=
  let payload : BitVec 14 := w.extractLsb' 0 14
  match commandKind cfg w with
  | .readData => if payload = 0 then .ok .readData else .error .unusedPayload
  | .readConf => if payload = 0 then .ok .readConf else .error .unusedPayload
  | .writeData =>
    if payload.extractLsb' 8 6 = 0 then .ok (.writeData (payload.extractLsb' 0 8)) else .error .unusedPayload
  | .writeConf =>
    let field : BitVec 14 := 0b1111#14 <<< cfg.baudLo
    if payload &&& ~~~field = 1#14 <<< cfg.rmBit then .ok (.writeConf (payload.extractLsb' cfg.baudLo 4))
    else .error .unusedPayload

/-- The operands of a host request, after its select code. A `read` with no operand is `read 0` (44_block_api R118). -/
def decodeOperands (cfg : Config) (op : BitVec 4) (bytes : List Byte) : Except DecodeError (Instr × List Byte) :=
  match op.toNat with
  | 0x0 =>
    match bytes with
    | [] => .error .truncated
    | baud :: bytes =>
      if baud.extractLsb' 4 4 = 0 then
        match takeOperand cfg.missW bytes with
        | .error e => .error e
        | .ok (mm, rest) => .ok (.openSession (baud.extractLsb' 0 4) mm, rest)
      else .error .highBitsSet
  | 0x1 => .ok (.closeSession, bytes)
  | 0x2 =>
    match bytes with
    | [] => .error .truncated
    | b :: rest => .ok (.putByte b, rest)
  | 0x3 => .ok (.getByte, bytes)
  | 0x4 => .ok (.available, bytes)
  | 0x5 => .ok (.clear, bytes)
  | 0x6 =>
    match takeOperand 32 bytes with
    | .error e => .error e
    | .ok (n, rest) =>
      match takeBytes n rest with
      | .error e => .error e
      | .ok (front, rest) => .ok (.write front, rest)
  | 0x7 =>
    match bytes with
    | [] => .ok (.readDefault, [])
    | _ :: _ =>
      match takeOperand cfg.lenW bytes with
      | .error e => .error e
      | .ok (n, rest) => .ok (.read (signExtend cfg.lenW n), rest)
  | _ => .ok (.hopUnassigned (op.extractLsb' 0 3), bytes)

/-- The instruction at the front of some bytes of a port, and the bytes after it. -/
def decode (cfg : Config) (format : Format) (bytes : List Byte) : Except DecodeError (Instr × List Byte) :=
  match format, bytes with
  | .cw, b₁ :: b₂ :: rest =>
    match decodeCommand cfg (wordOfLink b₁ b₂) with
    | .error e => .error e
    | .ok i => .ok (i, rest)
  | .rw, b₁ :: b₂ :: rest => .ok (.reply (wordOfLink b₁ b₂), rest)
  | .hop, op :: rest =>
    if op.extractLsb' 4 4 = 0 then decodeOperands cfg (op.extractLsb' 0 4) rest else .error .highBitsSet
  | _, _ => .error .truncated

/-- The operand bytes of a host request. -/
def encodeOperands (cfg : Config) : Instr → List Byte
  | .openSession baud mm => baud.setWidth 8 :: bytesOfNat (operandBytes cfg.missW) mm
  | .putByte b => [b]
  | .write bytes => bytesOfNat 4 bytes.length ++ bytes
  | .read len => bytesOfNat (operandBytes cfg.lenW) (len % (2 ^ cfg.lenW : Nat)).toNat
  | _ => []

/-- The bytes of an instruction on its port: the two link bytes of a command or reply word, or the select code and
the operands of a host request. -/
def encode (cfg : Config) : Instr → List Byte
  | .reply r => linkBytes r
  | i =>
    match commandWord cfg i, selectCode i with
    | some w, _ => linkBytes w
    | none, some op => op.setWidth 8 :: encodeOperands cfg i
    | none, none => []

/-- The instruction the decoder reads from a table row's bits (default parameters). A row of one byte is a host
request, followed by operand bytes of zeros. A row of two bytes is a word of the link: a command word when it is one
of the 274 words the block can send, a reply word otherwise, since the two formats share all 16-bit patterns
(DESIGN CHOICE, safe: log 16). -/
def decodeTableWord (nbits w : Nat) : Option Instr :=
  if nbits ≤ 8 then
    match decode .standard .hop (BitVec.ofNat 8 w :: List.replicate 5 0) with
    | .ok (i, _) => some i
    | .error _ => none
  else if nbits ≤ 16 then
    let bytes := linkBytes (BitVec.ofNat 16 w)
    match decode .standard .cw bytes, decode .standard .rw bytes with
    | .ok (i, _), _ => some i
    | .error _, .ok (i, _) => some i
    | .error _, .error _ => none
  else none

end Sys2Proof
end

