-- ==== Sys2Proof/Machine/Sequencer.lean ====
section
/-! DEFINITION. The phase machine (46_sequencer): what each phase sends (R135), what a reply does in it (R137 to R142),
the finishing steps (R139, R143, R144), and which instruction the next step runs. -/

namespace Sys2Proof.Machine

/-! ## Finishing steps -/

/-- `finishPut()` (46_sequencer R143): the next byte of a `write`, or the end of the operation. -/
def State.finishPut (s : State) : State :=
  match argBytes s.arg with
  | some bytes =>
    if s.bi + 1 < bytes.length then { s with bi := s.bi + 1, txb := byteAt bytes (s.bi + 1), phase := .poll }
    else s.done .ok
  | none => s.done .ok

/-- Whether a `read` of length `len` ends with the bytes collected so far, `g` being the last `getByte'` result
(46_sequencer R144, 44_block_api R117). -/
def readEnds (len : Int) (g : Option Byte) (collected : Nat) : Bool :=
  if 0 < len then decide ((collected : Int) = len)
  else g.isNone || (decide (len < 0) && decide (collected = magnitude len))

/-- `continueRead(g)` (46_sequencer R144). -/
def State.continueRead (s : State) (len : Int) (g : Option Byte) : State :=
  let t := { s with out := s.out ++ g.toList }
  if readEnds len g t.out.length then t.done (.bytes t.out) else { t with miss := 0, phase := .drain }

/-- `finishDrain()` (46_sequencer R139): no exchange. -/
def State.finishDrain (s : State) : State :=
  match s.ret with
  | .avail => s.done (.count s.len)
  | .clear => s.resetEmpty.done .ok
  | .put => s.finishPut
  | .get =>
    match argLength s.arg with
    | none => s.pop.2.done (.byte s.pop.1)
    | some len => s.pop.2.continueRead len s.pop.1

/-! ## Exchange steps -/

/-- The command word the next step sends (46_sequencer R135); none in IDLE and at the end of a Drain Loop. -/
def State.nextCommand (s : State) : Option Instr :=
  match s.phase with
  | .idle => none
  | .cfg => some (.writeConf (argBaud s.arg))
  | .drain => if s.miss < s.maxMisses then some .readData else none
  | .poll => some .readConf
  | .step => some .readData
  | .send => some (.writeData s.txb)

/-- Phase `CFG`: the reply is discarded (46_sequencer R137). -/
def State.onReplyCfg (s : State) : State := (s.openEffect (argMisses s.arg)).done .ok

/-- Phase `DRAIN` (46_sequencer R138). -/
def State.onReplyDrain (s : State) (r : Word) : State :=
  match s.capture r with
  | (.raised e, t) => t.fail e
  | (.hit, t) => { t with miss := 0 }
  | (.miss, t) => { t with miss := t.miss + 1 }

/-- Phase `POLL`: `R` takes precedence over `T` (46_sequencer R140). -/
def State.onReplyPoll (s : State) (r : Word) : State :=
  if s.replyR r then { s with phase := .step }
  else if s.replyT r then { s with phase := .send }
  else { s with phase := .poll }

/-- Phase `STEP`: `miss` is neither read nor written (46_sequencer R141). -/
def State.onReplyStep (s : State) (r : Word) : State :=
  match s.capture r with
  | (.raised e, t) => t.fail e
  | (.hit, t) => { t with phase := .poll }
  | (.miss, t) => { t with phase := .poll }

/-- Phase `SEND` (46_sequencer R142). -/
def State.onReplySend (s : State) (r : Word) : State :=
  match s.capture r with
  | (.raised e, t) => t.fail e
  | (.hit, t) => t.startDrain .put
  | (.miss, t) => t.finishPut

/-- What a reply word does, by phase. Without an exchange there is no reply: in IDLE nothing happens. -/
def State.onReply (s : State) (r : Word) : State :=
  match s.phase with
  | .idle => s
  | .cfg => s.onReplyCfg
  | .drain => s.onReplyDrain r
  | .poll => s.onReplyPoll r
  | .step => s.onReplyStep r
  | .send => s.onReplySend r

/-- What comes back from an exchange: a reply word, or `fail`, which ends the operation with `IoError` and nothing
decoded (20_memory R43, 60_exceptions R157). -/
def State.onAnswer (s : State) : Answer → State
  | .word r => s.onReply r
  | .fail => s.fail .ioError

/-- The exchange of the word `w` as one step: sent, answered, and the answer's whole effect (46_sequencer R135). -/
def State.exchange (s : State) (w : Word) : State := (s.exchanged w (s.answer w)).onAnswer (s.answer w)

/-- The exchange of the word `w` in which the reply is `r`: the environment's next move is that word. -/
def State.exchangeReply (s : State) (w r : Word) : State := (s.exchanged w (.word r)).onAnswer (.word r)

/-- A command row: the step of the phase that sends this very command word. In any other phase the block does not
send it, and nothing happens (46_sequencer R135, R145; DESIGN CHOICE, safe: log 14). -/
def State.sendCommand (s : State) (command : Instr) (w : Word) : State :=
  if s.nextCommand = some command then s.exchange w else s

/-! ## What the next step runs -/

/-- The instruction the next step runs and the state it runs in: in IDLE the request on the host port, which the step
takes (46_sequencer R136); in the other phases the command word the phase sends (R135). -/
def State.fetch (s : State) : Option (Instr × State) :=
  match s.phase, s.requests with
  | .idle, [] => none
  | .idle, request :: rest => some (request, { s with requests := rest })
  | _, _ => s.nextCommand.map fun command => (command, s)

/-- A step that runs no instruction: the end of a Drain Loop (46_sequencer R138, R139), or waiting in IDLE for a
request (R145). -/
def State.internal (s : State) : State :=
  match s.phase with
  | .drain => s.finishDrain
  | _ => s

/-- The state in which the next step runs `i`: for a host operation, IDLE with the request on the port; for a command
word, the phase that sends it, serving an operation that does; for a reply word, a status poll whose answer it is
(log 22). -/
def State.place (s : State) (i : Instr) : State :=
  match i with
  | .readData => { s with rst := false, phase := .step, isOpen := true, arg := .putByte s.txb }
  | .readConf => { s with rst := false, phase := .poll, isOpen := true, arg := .putByte s.txb }
  | .writeData d => { s with rst := false, phase := .send, isOpen := true, txb := d, arg := .putByte d }
  | .writeConf baud =>
    { s with rst := false, phase := .cfg, isOpen := false, arg := .openSession baud 0, handles := true :: s.handles.tail }
  | .reply r =>
    { s with
      rst := false, phase := .poll, isOpen := true, arg := .putByte s.txb, answers := .word r :: s.answers.tail }
  | .openSession _ _ => { s with rst := false, phase := .idle, requests := i :: s.requests.tail }
  | .closeSession => { s with rst := false, phase := .idle, requests := i :: s.requests.tail }
  | .putByte _ => { s with rst := false, phase := .idle, requests := i :: s.requests.tail }
  | .getByte => { s with rst := false, phase := .idle, requests := i :: s.requests.tail }
  | .available => { s with rst := false, phase := .idle, requests := i :: s.requests.tail }
  | .clear => { s with rst := false, phase := .idle, requests := i :: s.requests.tail }
  | .write _ => { s with rst := false, phase := .idle, requests := i :: s.requests.tail }
  | .read _ => { s with rst := false, phase := .idle, requests := i :: s.requests.tail }
  | .hopUnassigned _ => { s with rst := false, phase := .idle, requests := i :: s.requests.tail }

end Sys2Proof.Machine
end

