-- ==== Sys2Proof/Machine/Link.lean ====
section
/-! DEFINITION. The meanings of the words on the link: the four command words the block sends and the reply word it
receives. One step of the phase that sends the word (46_sequencer R135). -/

namespace Sys2Proof.Machine

/-- `READ_DATA`: the exchange of phases `DRAIN` and `STEP` (46_sequencer R138, R141; 41_drain R80). -/
def execReadData (s : State) : Host.Outcome State Fault Refusal :=
  .next (s.sendCommand .readData (encodeReadData s.cfg))

/-- `READ_CONF`: the exchange of phase `POLL` (46_sequencer R140). -/
def execReadConf (s : State) : Host.Outcome State Fault Refusal :=
  .next (s.sendCommand .readConf (encodeReadConfig s.cfg))

/-- `WRITE_DATA`: the exchange of phase `SEND` (46_sequencer R142). -/
def execWriteData (d : Byte) (s : State) : Host.Outcome State Fault Refusal :=
  .next (s.sendCommand (.writeData d) (encodeWriteData s.cfg d))

/-- `WRITE_CONF`: phase `CFG` (45_session R125, 46_sequencer R137). The collaborator opens the transport handle first;
if it fails, the operation ends with `IoError` and no exchange is made (log 8). -/
def execWriteConf (baud : BitVec 4) (s : State) : Host.Outcome State Fault Refusal :=
  .next
    (if s.nextCommand = some (.writeConf baud) then
      if s.handleOk then s.handleAsked.exchange (encodeWriteConfig s.cfg (openPayload s.cfg baud))
      else s.handleAsked.fail .ioError
    else s)

/-- `REPLY`: the word `r` comes back in the exchange the phase makes (20_memory R42, 30_encoding R57). With no exchange
there is no reply and nothing happens. In `CFG` an exchange takes place only if the handle was opened (log 15). -/
def execReply (r : Word) (s : State) : Host.Outcome State Fault Refusal :=
  .next
    (match s.nextCommand.bind (commandWord s.cfg) with
    | none => s
    | some w => if s.phase = .cfg then s.handleAsked.exchangeReply w r else s.exchangeReply w r)

end Sys2Proof.Machine
end

