-- ==== Sys2Proof/Machine/Session.lean ====
section
/-! DEFINITION. The meanings of the session operations `open` and `close`, and of the unassigned select codes: the
acceptance of the request (46_sequencer R136). Neither `open` nor `close` is gated (45_session R126, R128). -/

namespace Sys2Proof.Machine

/-- `open(baud, maxMisses)` (45_session R125, R128): refused on an open session, else phase `CFG`. -/
def execOpenSession (baud : BitVec 4) (maxMisses : Nat) (s : State) : Host.Outcome State Fault Refusal :=
  .next
    (s.accept (.openSession baud (missesOperand s.cfg maxMisses)) fun s =>
      if s.isOpen then s.fail .alreadyOpen else { s with phase := .cfg })

/-- `close()` (45_session R126): idempotent. The collaborator releases the handle if one is held, and its failure is
an `IoError` of a session that is closed all the same (log 8). -/
def execCloseSession (s : State) : Host.Outcome State Fault Refusal :=
  .next
    (s.accept .closeSession fun s =>
      if s.isOpen then
        if s.handleOk then s.handleAsked.closeEffect.done .ok else s.handleAsked.closeEffect.fail .ioError
      else s.closeEffect.done .ok)

/-- Select codes `0x8` to `0xF`: `Validation`, decoded before any gate (30_encoding R62, 60_exceptions R163). -/
def execHopUnassigned (low : BitVec 3) (s : State) : Host.Outcome State Fault Refusal :=
  .next (s.accept (.hopUnassigned low) fun s => s.fail .validation)

end Sys2Proof.Machine
end

