-- ==== Sys2Proof/Machine/Dispatch.lean ====
section
/-! DEFINITION. The dispatch of every row of spec/opcode_table.json to its meaning. -/

namespace Sys2Proof.Machine

def exec (i : Instr) (s : State) : Host.Outcome State Fault Refusal :=
  match i with
  | .readData => Sys2Proof.Machine.execReadData s
  | .readConf => Sys2Proof.Machine.execReadConf s
  | .writeData d => Sys2Proof.Machine.execWriteData d s
  | .writeConf baud => Sys2Proof.Machine.execWriteConf baud s
  | .reply r => Sys2Proof.Machine.execReply r s
  | .openSession baud maxMisses => Sys2Proof.Machine.execOpenSession baud maxMisses s
  | .closeSession => Sys2Proof.Machine.execCloseSession s
  | .putByte b => Sys2Proof.Machine.execPutByte b s
  | .getByte => Sys2Proof.Machine.execGetByte s
  | .available => Sys2Proof.Machine.execAvailable s
  | .clear => Sys2Proof.Machine.execClear s
  | .write bytes => Sys2Proof.Machine.execWrite bytes s
  | .read length => Sys2Proof.Machine.execRead length s
  | .hopUnassigned low => Sys2Proof.Machine.execHopUnassigned low s

end Sys2Proof.Machine
end

