-- ==== Sys2Proof/Machine/Step.lean ====
section
/-! DEFINITION. One step of the block (46_sequencer R135): the reset input, the instruction the phase runs, or the
internal step of a phase that runs none. -/

namespace Sys2Proof.Machine

/-- One step. -/
def step (s : State) : Host.Outcome State Fault Refusal :=
  if s.rst then .next s.applyReset
  else
    match s.fetch with
    | some (i, t) => exec i t
    | none => .next s.internal

/-- `s` with the instruction of a table row where the next step finds it (log 22). -/
def State.withFetchWord (s : State) (nbits w : Nat) : State :=
  match decodeTableWord nbits w with
  | some i => s.place i
  | none => s

end Sys2Proof.Machine
end

