-- ==== Sys2Proof/Machine/Procedures.lean ====
section
/-! DEFINITION. The operations as the big-step procedures of files 41 to 45, which are normative (00_scope R9). A
procedure may run for ever, so it takes a bound on the rounds of its loops; `running` says that the bound was reached
and nothing else. Only the sequencer registers and the host port are left out: the procedures do not have them. -/

namespace Sys2Proof.Machine

/-- How a procedure stands. -/
inductive Run (α : Type) where
  /-- It returned a value (`return v`). -/
  | ret (a : α) (s : State)
  /-- It raised an error (`raise E`): everything written before stays written. -/
  | raised (e : Err) (s : State)
  /-- The bound on the rounds was reached. -/
  | running (s : State)
  deriving DecidableEq, Repr

/-- Statements run in the order written; an error ends the procedure at once (00_scope R8, 60_exceptions R155). -/
def Run.andThen {α β : Type} (x : Run α) (f : α → State → Run β) : Run β :=
  match x with
  | .ret a s => f a s
  | .raised e s => .raised e s
  | .running s => .running s

/-- `Xchg(w)`; `if r == fail: raise IoError` (20_memory R35, R43). -/
def callXchg (w : Word) (s : State) : Run Word :=
  match s.answer w with
  | .word r => .ret r (s.exchanged w (.word r))
  | .fail => .raised .ioError (s.exchanged w .fail)

/-- `capture(r)` (41_drain R82): true for a hit. -/
def callCapture (r : Word) (s : State) : Run Bool :=
  match s.capture r with
  | (.hit, t) => .ret true t
  | (.miss, t) => .ret false t
  | (.raised e, t) => .raised e t

/-- `drainStep()` (41_drain R80). -/
def callDrainStep (s : State) : Run Bool := (callXchg (encodeReadData s.cfg) s).andThen callCapture

/-- The loop of `fetchPending` with the Miss Counter at `miss` (41_drain R83). -/
def callFetchLoop : Nat → Nat → State → Run Unit
  | 0, _, s => .running s
  | fuel + 1, miss, s =>
    if miss < s.maxMisses then
      (callDrainStep s).andThen fun hit s => callFetchLoop fuel (if hit then 0 else miss + 1) s
    else .ret () s

/-- `fetchPending()` (41_drain R83). -/
def callFetchPending (fuel : Nat) (s : State) : Run Unit := callFetchLoop fuel 0 s

/-- The wait loop of `putByte` (43_byte_api R101). -/
def callWaitLoop : Nat → State → Run Unit
  | 0, s => .running s
  | fuel + 1, s =>
    (callXchg (encodeReadConfig s.cfg) s).andThen fun r s =>
      if s.replyR r then (callDrainStep s).andThen fun _ s => callWaitLoop fuel s
      else if s.replyT r then .ret () s
      else callWaitLoop fuel s

/-- `putByte'`: the body of `putByte` without its gate (43_byte_api R101). -/
def callPutBody (fuel : Nat) (b : Byte) (s : State) : Run Unit :=
  (callWaitLoop fuel s).andThen fun _ s =>
    (callXchg (encodeWriteData s.cfg b) s).andThen fun r s =>
      (callCapture r s).andThen fun hit s => if hit then callFetchPending fuel s else .ret () s

/-- `getByte'`: the body of `getByte` without its gate (43_byte_api R103). -/
def callGetBody (fuel : Nat) (s : State) : Run (Option Byte) :=
  (callFetchPending fuel s).andThen fun _ s => .ret s.pop.1 s.pop.2

/-- `gate()` before a procedure (45_session R127). -/
def callGated {α : Type} (s : State) (body : State → Run α) : Run α :=
  match s.gate with
  | some e => .raised e s
  | none => body s

/-- The loop of `write` over the bytes in order (44_block_api R115). -/
def callWriteLoop (fuel : Nat) : List Byte → State → Run Unit
  | [], s => .ret () s
  | b :: rest, s => (callPutBody fuel b s).andThen fun _ s => callWriteLoop fuel rest s

/-- The loops of `read` (44_block_api R117), `out` being the bytes collected so far. -/
def callReadLoop (fuel : Nat) (len : Int) : Nat → List Byte → State → Run (List Byte)
  | 0, _, s => .running s
  | rounds + 1, out, s =>
    if 0 < len then
      if (out.length : Int) < len then
        (callGetBody fuel s).andThen fun g s => callReadLoop fuel len rounds (out ++ g.toList) s
      else .ret out s
    else if len = 0 ∨ out.length < magnitude len then
      (callGetBody fuel s).andThen fun g s =>
        match g with
        | none => .ret out s
        | some b => callReadLoop fuel len rounds (out ++ [b]) s
    else .ret out s

/-- `open(baud, mm)` (45_session R125). -/
def callOpen (baud : BitVec 4) (mm : Nat) (s : State) : Run Unit :=
  if s.isOpen then .raised .alreadyOpen s
  else if s.handleOk then
    (callXchg (encodeWriteConfig s.cfg (openPayload s.cfg baud)) s.handleAsked).andThen fun _ s =>
      .ret () (s.openEffect mm)
  else .raised .ioError s.handleAsked

/-- `close()` (45_session R126). -/
def callClose (s : State) : Run Unit :=
  if s.isOpen then
    if s.handleOk then .ret () s.handleAsked.closeEffect else .raised .ioError s.handleAsked.closeEffect
  else .ret () s.closeEffect

/-- `write(bytes)` (44_block_api R115). -/
def callWrite (fuel : Nat) (bytes : List Byte) (s : State) : Run Unit :=
  callGated s fun s =>
    if bytes.length = 0 then .raised .validation s
    else if s.cfg.maxWrite < bytes.length then .raised .validation s
    else callWriteLoop fuel bytes s

/-- Give the returned value as the result the host sees. -/
def Run.deliver {α : Type} (x : Run α) (result : α → State → Result) : Run Result :=
  x.andThen fun a s => .ret (result a s) s

/-- The procedure of a host operation. A word of the link is no host operation: the host port does not carry one, and
nothing is done. -/
def callOperation (fuel : Nat) (i : Instr) (s : State) : Run Result :=
  match i with
  | .openSession baud mm => (callOpen baud (missesOperand s.cfg mm) s).deliver fun _ _ => .ok
  | .closeSession => (callClose s).deliver fun _ _ => .ok
  | .putByte b => (callGated s (callPutBody fuel b)).deliver fun _ _ => .ok
  | .getByte => (callGated s (callGetBody fuel)).deliver fun g _ => .byte g
  | .available => (callGated s (callFetchPending fuel)).deliver fun _ t => .count t.len
  | .clear => ((callGated s (callFetchPending fuel)).andThen fun _ t => .ret () t.resetEmpty).deliver fun _ _ => .ok
  | .write bytes => (callWrite fuel bytes s).deliver fun _ _ => .ok
  | .read len =>
    (callGated s (callReadLoop fuel (lengthOperand s.cfg len) fuel [])).deliver fun out _ => .bytes out
  | .hopUnassigned _ => .raised .validation s
  | .readData => .running s
  | .readConf => .running s
  | .writeData _ => .running s
  | .writeConf _ => .running s
  | .reply _ => .running s

/-- A state without the sequencer registers and the host port: what a procedure and the phase machine have in common
(46_sequencer R146: exchanges, `open`, `ovr`, `head`, `tail`, `buf`, `maxMisses`; the oracles with them). -/
def State.shared (s : State) : State :=
  { s with
    phase := .idle, ret := .get, txb := 0, arg := .closeSession, bi := 0, out := [], miss := 0
    requests := [], delivered := [] }

end Sys2Proof.Machine
end

