-- ==== Sys2Proof/Safety.lean ====
section
/-! DEFINITION. The terms the statements use: the unread bytes, the invariants of the block, the rule that a byte is sent
only after a ready status, and runs of the machine. -/

namespace Sys2Proof.Machine

/-- The `k`-th slot of the occupied window (10_state R16 (e)). -/
def State.windowSlot (s : State) (k : Nat) : Nat := (s.tail + k) % s.cfg.capacity

/-- The unread bytes, oldest first (10_state R16 (e)). -/
def State.contents (s : State) : List Byte := (List.range s.len).map fun k => s.memRead (s.windowSlot k)

/-- The request is a `putByte` or a `write` whose current byte is `txb` (46_sequencer R149 (b), (d)). -/
def State.sending (s : State) : Bool :=
  match s.arg with
  | .putByte b => decide (s.txb = b)
  | .write bytes =>
    decide (s.bi < bytes.length) && decide (bytes.length ≤ s.cfg.maxWrite) && decide (s.txb = byteAt bytes s.bi)
  | _ => false

/-- The request is a `getByte`, or a `read` with room for a byte (46_sequencer R149 (c), (e)). -/
def State.getting (s : State) : Bool :=
  match s.arg with
  | .getByte => true
  | .read len =>
    (decide (len ≤ 0) || decide ((s.out.length : Int) < len)) &&
      (decide (0 ≤ len) || decide (s.out.length < magnitude len))
  | _ => false

/-- What each phase implies (46_sequencer R149 (a) to (f)). R149 (f) also says that `ovr` is 0 in `CFG`; that is not
so when a closed session had overrun, and is left out there (DEDUCED: log 20). -/
def State.phaseOk (s : State) : Bool :=
  match s.phase with
  | .idle => true
  | .cfg =>
    !s.isOpen &&
      (match s.arg with
      | .openSession _ mm => decide (mm < 2 ^ s.cfg.missW)
      | _ => false)
  | .poll => s.isOpen && !s.ovr && s.sending
  | .step => s.isOpen && !s.ovr && s.sending
  | .send => s.isOpen && !s.ovr && s.sending
  | .drain =>
    s.isOpen && !s.ovr && decide (s.miss ≤ s.maxMisses) &&
      (match s.ret with
      | .put => s.sending
      | .get => s.getting
      | .avail => decide (s.arg = .available)
      | .clear => decide (s.arg = .clear))

/-- The invariant of the block: admissible parameters; the Ring Buffer invariants of 10_state R16, every slot of the
occupied window written; the memory in canonical form inside the ring space; the width of the budget (R17); and what
each phase implies (46_sequencer R149). -/
structure State.Inv (s : State) : Prop where
  cfg_wf : s.cfg.WF
  head_lt : s.head < s.cfg.capacity
  tail_lt : s.tail < s.cfg.capacity
  buf_wf : Memory.wf s.buf = true
  buf_lt : ∀ cell ∈ s.buf, cell.1 < s.cfg.capacity
  written : ∀ k < s.len, (Memory.read s.buf (s.windowSlot k)).isSome
  budget : s.maxMisses < 2 ^ s.cfg.missW
  phase_ok : s.phaseOk = true

/-- `push` of each byte in order; none if one overruns. -/
def State.pushAll : List Byte → State → Option State
  | [], s => some s
  | b :: rest, s =>
    match s.push b with
    | (none, t) => State.pushAll rest t
    | (some _, _) => none

/-- `n` times `pop`, with what each returned. -/
def State.popN : Nat → State → List (Option Byte) × State
  | 0, s => ([], s)
  | n + 1, s => ((s.pop.1 :: (State.popN n s.pop.2).1), (State.popN n s.pop.2).2)

/-- The word sent in an exchange is a write-data command, by its tag (30_encoding R65). -/
def isWriteData (cfg : Config) (x : Exchange) : Bool := decide (commandKind cfg x.sent = .writeData)

/-- The exchange is a status poll answered with `R = 0` and `T = 1`. -/
def isReady (cfg : Config) (x : Exchange) : Bool :=
  decide (commandKind cfg x.sent = .readConf) &&
    match x.got with
    | .word r => !decodeReceiverHasData cfg r && decodeTransmitterReady cfg r
    | .fail => false

/-- In a list of exchanges, oldest first, every write-data exchange comes directly after a ready status
(43_byte_api R102 (a)); `before` is the exchange before the list. -/
def sendsWhenReady (cfg : Config) : Option Exchange → List Exchange → Bool
  | _, [] => true
  | before, x :: rest =>
    (!isWriteData cfg x || before.any (isReady cfg)) && sendsWhenReady cfg (some x) rest

/-- Every write-data exchange so far came directly after a ready status, and so will the one of phase `SEND`. -/
def State.neverSendsUnready (s : State) : Bool :=
  sendsWhenReady s.cfg none s.wire && (decide (s.phase ≠ .send) || s.wire.getLast?.any (isReady s.cfg))

/-- Every word sent so far is one of the words the block can produce (30_encoding R65). -/
def State.sendsOnlyCommands (s : State) : Bool :=
  s.wire.all fun x => match decodeCommand s.cfg x.sent with
    | .ok _ => true
    | .error _ => false

/-- The state without what no later step reads before it writes it: of the sequencer registers those the phase does not
use (10_state R22, 46_sequencer R136 to R144), and on a closed block what an earlier session left (70_reset R188). -/
def State.live (s : State) : State :=
  let t := match s.phase with
    | .idle => { s with miss := 0, ret := .get, txb := 0, arg := .closeSession, bi := 0, out := [] }
    | .cfg => { s with miss := 0, ret := .get, txb := 0, bi := 0, out := [] }
    | .poll => { s with miss := 0, ret := .get, bi := if (argBytes s.arg).isSome then s.bi else 0, out := [] }
    | .step => { s with miss := 0, ret := .get, bi := if (argBytes s.arg).isSome then s.bi else 0, out := [] }
    | .send => { s with miss := 0, ret := .get, bi := if (argBytes s.arg).isSome then s.bi else 0, out := [] }
    | .drain =>
      { s with
        txb := 0
        bi := if s.ret = .put ∧ (argBytes s.arg).isSome then s.bi else 0
        out := if s.ret = .get ∧ (argLength s.arg).isSome then s.out else [] }
  if s.isOpen = false ∧ (s.phase = .idle ∨ s.phase = .cfg) then
    { t with ovr := false, head := 0, tail := 0, buf := [], maxMisses := 0 }
  else t

/-- `t` is the state after `n` steps from `s`. -/
def Reaches (n : Nat) (s t : State) : Prop := Host.Core.run core n s = .next t

/-- The ways `phase` can move (46_sequencer R145). -/
def Phase.allowed : Phase → Phase → Bool
  | .idle, .idle => true
  | .idle, .cfg => true
  | .idle, .poll => true
  | .idle, .drain => true
  | .cfg, .idle => true
  | .drain, .drain => true
  | .drain, .idle => true
  | .drain, .poll => true
  | .poll, .step => true
  | .poll, .send => true
  | .poll, .poll => true
  | .poll, .idle => true
  | .step, .poll => true
  | .step, .idle => true
  | .send, .drain => true
  | .send, .poll => true
  | .send, .idle => true
  | _, _ => false

end Sys2Proof.Machine
end

