-- ==== Sys2Proof/Certificates/Slice0/Obligations.lean ====
section
/-! DEFINITION. The statements for the provers. Where a docstring says that a clause is the model's choice, it names the
entry of notes/assumptions. -/

open Sys2Proof Sys2Proof.Machine

/-! ## Words of the link -/

/-- 30_encoding R50 to R62: what the encoder writes, the decoder reads back, with every operand and every admissible
parameter, whatever bytes follow. The operand layout of the requests is the model's (log 17). -/
def Obligations.DecodeReadsBackWhatEncodeWrites : Prop :=
  ∀ (cfg : Config) (i : Instr) (rest : List Byte), cfg.WF → i.WF cfg →
    decode cfg i.format (encode cfg i ++ rest) = .ok (i, rest)

/-- 30_encoding R65: with the default parameters the words the block can produce are `0x0000`, `0x4000`, `0x8000 | d`
and `0xC400 | baud`, 274 distinct words. -/
def Obligations.ProducedWordsAreThe274OfTheMap : Prop :=
  (∀ w : Word, (∃ i, commandWord .standard i = some w) ↔
    (w = 0x0000 ∨ w = 0x4000 ∨ (∃ d : Byte, w = 0x8000 ||| d.setWidth 16) ∨
      ∃ baud : BitVec 4, w = 0xC400 ||| baud.setWidth 16)) ∧
  ∃ ws : List Word, ws.Nodup ∧ ws.length = 274 ∧ ∀ w, w ∈ ws ↔ ∃ i, commandWord .standard i = some w

/-- 40_codec R70 to R73: the four encoders put the tag in bits 15:14 and the payload in bits 13:0, with the values the
rules give for the default parameters; `encodeWriteData` is injective through its low byte. -/
def Obligations.EncodersPutTagAndPayload : Prop :=
  (∀ cfg : Config, encodeReadData cfg = cfg.tagReadData ++ 0#14) ∧
  (∀ (cfg : Config) (b : Byte), encodeWriteData cfg b = cfg.tagWriteData ++ b.setWidth 14) ∧
  (∀ cfg : Config, encodeReadConfig cfg = cfg.tagReadConf ++ 0#14) ∧
  (∀ (cfg : Config) (bits : BitVec 14), encodeWriteConfig cfg bits = cfg.tagWriteConf ++ bits) ∧
  (∀ (cfg : Config) (b : Byte), (encodeWriteData cfg b).extractLsb' 0 8 = b) ∧
  encodeReadData .standard = 0x0000 ∧ encodeReadConfig .standard = 0x4000 ∧
  (∀ b : Byte, encodeWriteData .standard b = 0x8000 ||| b.setWidth 16) ∧
  (∀ bits : BitVec 14, encodeWriteConfig .standard bits = 0xC000 ||| bits.setWidth 16) ∧
  (∀ baud : BitVec 4, openPayload .standard baud = 0x0400 ||| baud.setWidth 14)

/-- 40_codec R78: a reply with `R = 1` and low byte `b` decodes to `b`. And the two further laws that R78 infers from R70
to R76 (it marks them as derived): the low byte of a write-data word is its byte, and the four encoders never give the
same word when the tags are distinct. -/
def Obligations.ReplyDecodingRecoversTheByte : Prop :=
  (∀ (cfg : Config) (b : Byte) (r : Word), r.getLsbD cfg.rBit = true → r.extractLsb' 0 8 = b →
    decodeReceiverHasData cfg r = true ∧ decodeDataByte r = b) ∧
  (∀ (cfg : Config) (b : Byte), decodeDataByte (encodeWriteData cfg b) = b) ∧
  (∀ (cfg : Config) (b : Byte) (bits : BitVec 14), cfg.WF →
    ([encodeReadData cfg, encodeWriteData cfg b, encodeReadConfig cfg, encodeWriteConfig cfg bits].map
      fun w => w.extractLsb' 14 2).Nodup)

/-- 20_memory R32: bits 15:8 are the first byte on the link and bits 7:0 the second, both ways. -/
def Obligations.LinkCarriesTheHighByteFirst : Prop :=
  (∀ w : Word, linkBytes w = [w.extractLsb' 8 8, w.extractLsb' 0 8]) ∧
  (∀ b₁ b₂ : Byte, (wordOfLink b₁ b₂).extractLsb' 8 8 = b₁ ∧ (wordOfLink b₁ b₂).extractLsb' 0 8 = b₂) ∧
  ∀ w : Word, wordOfLink (w.extractLsb' 8 8) (w.extractLsb' 0 8) = w

/-- 30_encoding R53 to R57, R61, R62: one word or select code of each row, written out from the spec's encoding, is
read as its row; and a `read` with no operand is `read 0` (44_block_api R118). Two choices of the model bear on it: that
a 16-bit pattern is read as a command word when it is one of the 274 and as a reply otherwise (so 0xC0A1 is a reply,
0x0000 a command: log 16), and the operand bytes of a request, zeros here, of which a `read` may have none (log 17). -/
def Obligations.TableWordsDecodeToTheirRows : Prop :=
  decodeTableWord 16 0b0000000000000000 = some .readData ∧
  decodeTableWord 16 0b0100000000000000 = some .readConf ∧
  decodeTableWord 16 0b1000000001000001 = some (.writeData 0x41) ∧
  decodeTableWord 16 0b1100010000001010 = some (.writeConf 0xA) ∧
  decodeTableWord 16 0b1100000010100001 = some (.reply 0xC0A1) ∧
  decodeTableWord 8 0b0000 = some (.openSession 0 0) ∧
  decodeTableWord 8 0b0001 = some .closeSession ∧
  decodeTableWord 8 0b0010 = some (.putByte 0) ∧
  decodeTableWord 8 0b0011 = some .getByte ∧
  decodeTableWord 8 0b0100 = some .available ∧
  decodeTableWord 8 0b0101 = some .clear ∧
  decodeTableWord 8 0b0110 = some (.write []) ∧
  decodeTableWord 8 0b0111 = some (.read 0) ∧
  decodeTableWord 8 0b1001 = some (.hopUnassigned 1) ∧
  (∀ cfg : Config, decode cfg .hop [0b0111] = .ok (.readDefault, [])) ∧ Instr.readDefault = .read 0

/-! ## Steps -/

/-- 46_sequencer R135, R136: without reset, a step in IDLE takes the request at the port and runs it; a step of a phase
that sends a command word runs that word's row, and the word decodes to that row; and an instruction placed from a
table row is what the next step runs (how it is placed is the model's choice: log 22). -/
def Obligations.StepRunsTheDecodedInstruction : Prop :=
  (∀ (s : State) (i : Instr) (rest : List Instr), s.rst = false → s.phase = .idle → s.requests = i :: rest →
    step s = exec i { s with requests := rest }) ∧
  (∀ (s : State) (i : Instr), s.rst = false → s.cfg.WF → s.nextCommand = some i →
    step s = exec i s ∧
      ∃ w, commandWord s.cfg i = some w ∧ decode s.cfg .cw (linkBytes w) = .ok (i, [])) ∧
  (∀ (s : State) (nbits w : Nat) (i : Instr), decodeTableWord nbits w = some i →
    step (s.withFetchWord nbits w) =
      exec i (if i.format = .hop then { s.withFetchWord nbits w with requests := s.requests.tail }
        else s.withFetchWord nbits w))

/-- 46_sequencer R145: a block in IDLE with no request does nothing. -/
def Obligations.IdleBlockWaitsForARequest : Prop :=
  ∀ s : State, s.rst = false → s.phase = .idle → s.requests = [] → step s = .next s

/-- 46_sequencer R148, 60_exceptions R179: the block is never stuck: every instruction in every state, and every step
of every state, has a next state. -/
def Obligations.EveryStepHasANextState : Prop :=
  (∀ (i : Instr) (s : State), ∃ t, exec i s = .next t) ∧ ∀ s : State, ∃ t, step s = .next t

/-- 46_sequencer R145: without reset, `phase` moves only along the transitions of the table. -/
def Obligations.PhaseMovesOnlyAlongTheTable : Prop :=
  ∀ s t : State, s.rst = false → step s = .next t → Phase.allowed s.phase t.phase = true

/-- 46_sequencer R135, 20_memory R39: a step makes no exchange, or exactly the one of its phase: the word of the phase
is appended to the exchanges with the environment's answer to it, and that answer is used up. No step changes the
parameters, and no step forgets an exchange. -/
def Obligations.StepMakesAtMostItsOneExchange : Prop :=
  ∀ s t : State, step s = .next t →
    t.cfg = s.cfg ∧
      ((t.wire = s.wire ∧ t.answers = s.answers) ∨
        ∃ i w, s.nextCommand = some i ∧ commandWord s.cfg i = some w ∧
          t.wire = s.wire ++ [⟨w, s.answer w⟩] ∧ t.answers = s.answers.tail)

/-! ## Session operations -/

/-- 45_session R125, 46_sequencer R136: `open` on a closed block is latched and enters `CFG`; nothing else changes. -/
def Obligations.OpenOnAClosedBlockEntersCfg : Prop :=
  ∀ (s : State) (baud : BitVec 4) (mm : Nat), s.phase = .idle → s.isOpen = false →
    (Instr.openSession baud mm).WF s.cfg →
    exec (.openSession baud mm) s = .next { s with arg := .openSession baud mm, phase := .cfg }

/-- 60_exceptions R159: `open` on an open session is refused with `AlreadyOpen`: no exchange, and the session, its
`maxMisses` and its buffered bytes are untouched. Its code is 2. -/
def Obligations.OpenOnAnOpenSessionIsRefused : Prop :=
  ∀ (s : State) (baud : BitVec 4) (mm : Nat), s.phase = .idle → s.isOpen = true →
    (Instr.openSession baud mm).WF s.cfg →
    exec (.openSession baud mm) s = .next
      { s with arg := .openSession baud mm, delivered := s.delivered ++ [.error .alreadyOpen] } ∧
    Result.code (.error .alreadyOpen) = 2

/-- 45_session R125, 46_sequencer R137: the write-config step of `open`. With the handle opened and any reply, the
budget is stored, the ring is empty with no slot defined, `ovr` is cleared, the session is open and the result is `Ok`;
a failed exchange gives `IoError` and writes nothing; so does a handle that could not be opened, with no exchange (that
it is asked for in this step is the model's choice: log 8). -/
def Obligations.WriteConfCompletesOpen : Prop :=
  ∀ (s : State) (baud : BitVec 4) (mm : Nat) (w : Word), s.phase = .cfg → s.arg = .openSession baud mm →
    commandWord s.cfg (.writeConf baud) = some w →
    (s.handleOk = true → ∀ r, s.answer w = .word r →
      exec (.writeConf baud) s = .next
        { s with
          handles := s.handles.tail, handleOps := s.handleOps + 1
          answers := s.answers.tail, wire := s.wire ++ [⟨w, .word r⟩]
          maxMisses := mm, head := 0, tail := 0, buf := [], ovr := false, isOpen := true
          session := some ⟨Config.handle (s.handleOps + 1), s.cfg.bpw, s.cfg.busSpeedHz⟩
          phase := .idle, delivered := s.delivered ++ [.ok] }) ∧
    (s.handleOk = true → s.answer w = .fail →
      exec (.writeConf baud) s = .next
        { s with
          handles := s.handles.tail, handleOps := s.handleOps + 1
          answers := s.answers.tail, wire := s.wire ++ [⟨w, .fail⟩]
          phase := .idle, delivered := s.delivered ++ [.error .ioError] }) ∧
    (s.handleOk = false →
      exec (.writeConf baud) s = .next
        { s with
          handles := s.handles.tail, handleOps := s.handleOps + 1
          phase := .idle, delivered := s.delivered ++ [.error .ioError] })

/-- 45_session R126: `close` is not gated, makes no exchange and leaves the block closed with `ovr` and the ring as they
are: `Ok`, also with no session; `IoError` when the release of a held handle fails. -/
def Obligations.CloseAlwaysLeavesTheBlockClosed : Prop :=
  ∀ s : State, s.phase = .idle →
    (s.isOpen = false →
      exec .closeSession s = .next
        { s with arg := .closeSession, session := none, delivered := s.delivered ++ [.ok] }) ∧
    (s.isOpen = true → s.handleOk = true →
      exec .closeSession s = .next
        { s with
          arg := .closeSession, isOpen := false, session := none
          handles := s.handles.tail, handleOps := s.handleOps + 1, delivered := s.delivered ++ [.ok] }) ∧
    (s.isOpen = true → s.handleOk = false →
      exec .closeSession s = .next
        { s with
          arg := .closeSession, isOpen := false, session := none
          handles := s.handles.tail, handleOps := s.handleOps + 1
          delivered := s.delivered ++ [.error .ioError] })

/-- 30_encoding R62: the select codes `0x8` to `0xF`, and they alone, name no operation; a request with one is refused
with `Validation` whatever `open` and `ovr` are; no exchange, nothing changed but the request that acceptance latches
(46_sequencer R136). That such a request has no operand bytes is the model's choice (log 17). -/
def Obligations.UnassignedCodesAreRefused : Prop :=
  (∀ (cfg : Config) (op : BitVec 4) (operands rest : List Byte) (i : Instr),
    decodeOperands cfg op operands = .ok (i, rest) → ((∃ low, i = .hopUnassigned low) ↔ 8 ≤ op.toNat)) ∧
  (∀ (cfg : Config) (op : BitVec 4) (operands : List Byte), 8 ≤ op.toNat →
    ∃ low : BitVec 3, op = 1#1 ++ low ∧ decodeOperands cfg op operands = .ok (.hopUnassigned low, operands)) ∧
  ∀ (s : State) (low : BitVec 3), s.phase = .idle →
    exec (.hopUnassigned low) s = .next
      { s with arg := .hopUnassigned low, delivered := s.delivered ++ [.error .validation] }

/-- 45_session R127, 60_exceptions R158, R160, R163: each of the six gated operations, on a closed block, is refused
with `NotOpen`, whatever `ovr` is, and on an open block with `ovr = 1` with `Overrun`, an empty or too long `write`
included; no exchange, nothing changed but the latched request. -/
def Obligations.GateRefusesClosedThenFaulted : Prop :=
  ∀ (s : State) (i : Instr) (e : Err), s.phase = .idle → s.cfg.WF → i.WF s.cfg →
    ((∃ b, i = .putByte b) ∨ i = .getByte ∨ i = .available ∨ i = .clear ∨ (∃ bytes, i = .write bytes) ∨
      ∃ len, i = .read len) →
    ((s.isOpen = false ∧ e = .notOpen) ∨ (s.isOpen = true ∧ s.ovr = true ∧ e = .overrun)) →
    exec i s = .next { s with arg := i, delivered := s.delivered ++ [.error e] }

/-- 20_memory R44, 46_sequencer R136: a host operation presented while an operation is in progress is not accepted; that
it is without any effect is the model's choice (93 U17; log 11). -/
def Obligations.RequestDuringAnOperationHasNoEffect : Prop :=
  ∀ (s : State) (i : Instr), s.phase ≠ .idle → i.format = .hop → exec i s = .next s

/-! ## Byte and block operations: acceptance -/

/-- 43_byte_api R101, 46_sequencer R136: past the gate, `putByte` latches its byte and enters the wait loop. -/
def Obligations.PutByteEntersTheWaitLoop : Prop :=
  ∀ (s : State) (b : Byte), s.phase = .idle → s.isOpen = true → s.ovr = false →
    exec (.putByte b) s = .next { s with arg := .putByte b, txb := b, phase := .poll }

/-- 43_byte_api R103 to R105, 44_block_api R117, 46_sequencer R136: past the gate, `getByte`, `available`, `clear` and
`read` of any length enter a Drain Loop with the Miss Counter at 0; a `read` starts with nothing collected. -/
def Obligations.ReadingOperationsEnterADrainLoop : Prop :=
  ∀ s : State, s.phase = .idle → s.isOpen = true → s.ovr = false → s.cfg.WF →
    exec .getByte s = .next { s with arg := .getByte, miss := 0, ret := .get, phase := .drain } ∧
    exec .available s = .next { s with arg := .available, miss := 0, ret := .avail, phase := .drain } ∧
    exec .clear s = .next { s with arg := .clear, miss := 0, ret := .clear, phase := .drain } ∧
    ∀ len : Int, (Instr.read len).WF s.cfg →
      exec (.read len) s = .next { s with arg := .read len, out := [], miss := 0, ret := .get, phase := .drain }

/-- 44_block_api R115: past the gate, a `write` of 1 to `MAX_WRITE` bytes latches its first byte and enters the wait
loop; one of 0 bytes or of more than `MAX_WRITE` is refused with `Validation` before any exchange. -/
def Obligations.WriteValidatesItsLengthThenSends : Prop :=
  ∀ (s : State) (bytes : List Byte), s.phase = .idle → s.isOpen = true → s.ovr = false →
    (∀ b rest, bytes = b :: rest → bytes.length ≤ s.cfg.maxWrite →
      exec (.write bytes) s = .next { s with arg := .write bytes, bi := 0, txb := b, phase := .poll }) ∧
    (bytes = [] ∨ s.cfg.maxWrite < bytes.length →
      exec (.write bytes) s = .next
        { s with arg := .write bytes, delivered := s.delivered ++ [.error .validation] })

/-! ## Exchange steps -/

/-- 46_sequencer R140: the status poll. `R = 1` leads to the drain step whatever `T` is; else `T = 1` to the
transmission; else the poll is repeated. No state but `phase` changes. A failed exchange ends the operation with
`IoError`. -/
def Obligations.ReadConfPollsReceiverBeforeTransmitter : Prop :=
  ∀ s : State, s.phase = .poll →
    (∀ r, s.answer (encodeReadConfig s.cfg) = .word r →
      exec .readConf s = .next
        { s with
          answers := s.answers.tail, wire := s.wire ++ [⟨encodeReadConfig s.cfg, .word r⟩]
          phase := if r.getLsbD s.cfg.rBit then .step else if r.getLsbD s.cfg.tBit then .send else .poll }) ∧
    (s.answer (encodeReadConfig s.cfg) = .fail →
      exec .readConf s = .next
        { s with
          answers := s.answers.tail, wire := s.wire ++ [⟨encodeReadConfig s.cfg, .fail⟩]
          phase := .idle, delivered := s.delivered ++ [.error .ioError] })

/-- 46_sequencer R138, 41_drain R82, R83: one round of the Drain Loop. A hit is stored at `head` and resets the Miss
Counter, a miss counts, and a hit on a full ring sets `ovr`, changes nothing of the ring and ends the operation with
`Overrun`. -/
def Obligations.ReadDataDrainsOneReply : Prop :=
  ∀ (s : State) (r : Word), s.phase = .drain → s.miss < s.maxMisses → s.head < s.cfg.capacity →
    s.answer (encodeReadData s.cfg) = .word r →
    (r.getLsbD s.cfg.rBit = true → (s.head + 1) % s.cfg.capacity ≠ s.tail →
      exec .readData s = .next
        { s with
          answers := s.answers.tail, wire := s.wire ++ [⟨encodeReadData s.cfg, .word r⟩]
          buf := Memory.write s.buf s.head (r.extractLsb' 0 8)
          head := (s.head + 1) % s.cfg.capacity, miss := 0 }) ∧
    (r.getLsbD s.cfg.rBit = true → (s.head + 1) % s.cfg.capacity = s.tail →
      exec .readData s = .next
        { s with
          answers := s.answers.tail, wire := s.wire ++ [⟨encodeReadData s.cfg, .word r⟩]
          ovr := true, phase := .idle, delivered := s.delivered ++ [.error .overrun] }) ∧
    (r.getLsbD s.cfg.rBit = false →
      exec .readData s = .next
        { s with
          answers := s.answers.tail, wire := s.wire ++ [⟨encodeReadData s.cfg, .word r⟩]
          miss := s.miss + 1 })

/-- 46_sequencer R141: the single drain step of the wait loop. A hit is stored, a miss stores nothing, either way the
poll is next and `miss` is untouched; a hit on a full ring ends the operation with `Overrun`, a failed exchange with
`IoError`. -/
def Obligations.ReadDataInTheWaitLoopStoresAndPolls : Prop :=
  ∀ s : State, s.phase = .step → s.head < s.cfg.capacity →
    (s.answer (encodeReadData s.cfg) = .fail →
      exec .readData s = .next
        { s with
          answers := s.answers.tail, wire := s.wire ++ [⟨encodeReadData s.cfg, .fail⟩]
          phase := .idle, delivered := s.delivered ++ [.error .ioError] }) ∧
    ∀ r, s.answer (encodeReadData s.cfg) = .word r →
    (r.getLsbD s.cfg.rBit = true → (s.head + 1) % s.cfg.capacity ≠ s.tail →
      exec .readData s = .next
        { s with
          answers := s.answers.tail, wire := s.wire ++ [⟨encodeReadData s.cfg, .word r⟩]
          buf := Memory.write s.buf s.head (r.extractLsb' 0 8)
          head := (s.head + 1) % s.cfg.capacity, phase := .poll }) ∧
    (r.getLsbD s.cfg.rBit = true → (s.head + 1) % s.cfg.capacity = s.tail →
      exec .readData s = .next
        { s with
          answers := s.answers.tail, wire := s.wire ++ [⟨encodeReadData s.cfg, .word r⟩]
          ovr := true, phase := .idle, delivered := s.delivered ++ [.error .overrun] }) ∧
    (r.getLsbD s.cfg.rBit = false →
      exec .readData s = .next
        { s with
          answers := s.answers.tail, wire := s.wire ++ [⟨encodeReadData s.cfg, .word r⟩], phase := .poll })

/-- 46_sequencer R142, R143: the transmission. A reply with `R = 1` is stored and starts a Drain Loop; with `R = 0` the
`putByte` is complete, or the next byte of a `write` is latched; a hit on a full ring ends the operation with
`Overrun`, a failed exchange with `IoError`. `T` is not looked at. -/
def Obligations.WriteDataTransmitsTheByte : Prop :=
  ∀ s : State, s.phase = .send → s.head < s.cfg.capacity →
    (s.answer (encodeWriteData s.cfg s.txb) = .fail →
      exec (.writeData s.txb) s = .next
        { s with
          answers := s.answers.tail, wire := s.wire ++ [⟨encodeWriteData s.cfg s.txb, .fail⟩]
          phase := .idle, delivered := s.delivered ++ [.error .ioError] }) ∧
    ∀ r, s.answer (encodeWriteData s.cfg s.txb) = .word r →
    (r.getLsbD s.cfg.rBit = true → (s.head + 1) % s.cfg.capacity ≠ s.tail →
      exec (.writeData s.txb) s = .next
        { s with
          answers := s.answers.tail, wire := s.wire ++ [⟨encodeWriteData s.cfg s.txb, .word r⟩]
          buf := Memory.write s.buf s.head (r.extractLsb' 0 8)
          head := (s.head + 1) % s.cfg.capacity, miss := 0, ret := .put, phase := .drain }) ∧
    (r.getLsbD s.cfg.rBit = true → (s.head + 1) % s.cfg.capacity = s.tail →
      exec (.writeData s.txb) s = .next
        { s with
          answers := s.answers.tail, wire := s.wire ++ [⟨encodeWriteData s.cfg s.txb, .word r⟩]
          ovr := true, phase := .idle, delivered := s.delivered ++ [.error .overrun] }) ∧
    (r.getLsbD s.cfg.rBit = false → (∀ bytes, s.arg ≠ .write bytes) →
      exec (.writeData s.txb) s = .next
        { s with
          answers := s.answers.tail, wire := s.wire ++ [⟨encodeWriteData s.cfg s.txb, .word r⟩]
          phase := .idle, delivered := s.delivered ++ [.ok] }) ∧
    (∀ bytes, r.getLsbD s.cfg.rBit = false → s.arg = .write bytes →
      (∀ b, bytes[s.bi + 1]? = some b →
        exec (.writeData s.txb) s = .next
          { s with
            answers := s.answers.tail, wire := s.wire ++ [⟨encodeWriteData s.cfg s.txb, .word r⟩]
            bi := s.bi + 1, txb := b, phase := .poll }) ∧
      (bytes.length ≤ s.bi + 1 →
        exec (.writeData s.txb) s = .next
          { s with
            answers := s.answers.tail, wire := s.wire ++ [⟨encodeWriteData s.cfg s.txb, .word r⟩]
            phase := .idle, delivered := s.delivered ++ [.ok] }))

/-- 20_memory R42, 46_sequencer R135: running a command row whose exchange the environment answers with the word `r` is
receiving `r` in that exchange, in every phase that makes one; and in the status poll the reply word `r` moves `phase`
by its `R` and `T` bits. That the row REPLY is run so is the model's choice (log 15). -/
def Obligations.ReplyHasTheEffectOfItsExchange : Prop :=
  (∀ (s : State) (i : Instr) (w r : Word), s.nextCommand = some i → commandWord s.cfg i = some w →
    s.answer w = .word r → (s.phase = .cfg → s.handleOk = true) → exec (.reply r) s = exec i s) ∧
  (∀ (s : State) (r : Word), s.phase = .poll →
    exec (.reply r) s = .next
      { s with
        answers := s.answers.tail, wire := s.wire ++ [⟨encodeReadConfig s.cfg, .word r⟩]
        phase := if r.getLsbD s.cfg.rBit then .step else if r.getLsbD s.cfg.tBit then .send else .poll })

/-- 20_memory R43, 60_exceptions R157: a failed exchange, in any phase that makes one, ends the operation with
`IoError`; nothing is decoded or stored, `ovr` and `open` and all else keep their values. In `CFG` the exchange takes
place after the handle was opened in the same step (the model's choice: log 8), so one handle operation is used up. -/
def Obligations.FailedExchangeEndsWithIoError : Prop :=
  ∀ (s : State) (i : Instr) (w : Word), s.nextCommand = some i → commandWord s.cfg i = some w → s.answer w = .fail →
    (s.phase ≠ .cfg →
      exec i s = .next
        { s with
          answers := s.answers.tail, wire := s.wire ++ [⟨w, .fail⟩]
          phase := .idle, delivered := s.delivered ++ [.error .ioError] }) ∧
    (s.phase = .cfg → s.handleOk = true →
      exec i s = .next
        { s with
          handles := s.handles.tail, handleOps := s.handleOps + 1
          answers := s.answers.tail, wire := s.wire ++ [⟨w, .fail⟩]
          phase := .idle, delivered := s.delivered ++ [.error .ioError] })

/-- 30_encoding R59, R60, 93 U13, U14: two reply words that agree on `R`, `T` and the data byte have the same effect, but
for the word the port shows; so have any two with `R = 0` in a read-data or write-data exchange, and any two in the
write-config exchange. -/
def Obligations.UnusedReplyBitsChangeNothing : Prop :=
  ∀ (s t t' : State) (r r' : Word), exec (.reply r) s = .next t → exec (.reply r') s = .next t' →
    ((r.getLsbD s.cfg.rBit = r'.getLsbD s.cfg.rBit ∧ r.getLsbD s.cfg.tBit = r'.getLsbD s.cfg.tBit ∧
        r.extractLsb' 0 8 = r'.extractLsb' 0 8) ∨
      ((s.phase = .drain ∨ s.phase = .step ∨ s.phase = .send) ∧
        r.getLsbD s.cfg.rBit = false ∧ r'.getLsbD s.cfg.rBit = false) ∨
      s.phase = .cfg) →
    { t with wire := [] } = { t' with wire := [] }

/-! ## Finishing a Drain Loop -/

/-- 46_sequencer R139, R143: when the budget is used up, a Drain Loop ends without an exchange: `available` gives the
count, `clear` empties the ring, `getByte` pops, and a `putByte` is complete or goes on with the next byte of a
`write`. -/
def Obligations.DrainLoopEndsByWhatItServes : Prop :=
  ∀ s : State, s.rst = false → s.phase = .drain → s.maxMisses ≤ s.miss →
    (s.ret = .avail →
      step s = .next { s with phase := .idle, delivered := s.delivered ++ [.count s.len] }) ∧
    (s.ret = .clear →
      step s = .next { s with head := 0, tail := 0, phase := .idle, delivered := s.delivered ++ [.ok] }) ∧
    (s.ret = .get → s.arg = .getByte →
      step s = .next { s.pop.2 with phase := .idle, delivered := s.delivered ++ [.byte s.pop.1] }) ∧
    (s.ret = .put → (∀ bytes, s.arg ≠ .write bytes) →
      step s = .next { s with phase := .idle, delivered := s.delivered ++ [.ok] }) ∧
    (∀ bytes b, s.ret = .put → s.arg = .write bytes → bytes[s.bi + 1]? = some b →
      step s = .next { s with bi := s.bi + 1, txb := b, phase := .poll }) ∧
    (∀ bytes, s.ret = .put → s.arg = .write bytes → bytes.length ≤ s.bi + 1 →
      step s = .next { s with phase := .idle, delivered := s.delivered ++ [.ok] })

/-- 46_sequencer R144: what a `read` does with each `getByte'` result. A byte is appended; a blocking `read` ends when
`length` bytes are collected and goes on after `none`; a non-blocking one ends at `none`, or at `|length|` bytes when
`length` is negative. -/
def Obligations.ReadContinuesByItsLength : Prop :=
  ∀ (s : State) (len : Int), s.rst = false → s.phase = .drain → s.maxMisses ≤ s.miss → s.ret = .get →
    s.arg = .read len →
    (((0 < len ∧ ((s.out ++ s.pop.1.toList).length : Int) = len) ∨
        (len ≤ 0 ∧ s.pop.1 = none) ∨
        (len < 0 ∧ s.pop.1 ≠ none ∧ ((s.out ++ s.pop.1.toList).length : Int) = -len)) →
      step s = .next
        { s.pop.2 with
          out := s.out ++ s.pop.1.toList, phase := .idle
          delivered := s.delivered ++ [.bytes (s.out ++ s.pop.1.toList)] }) ∧
    (((0 < len ∧ ((s.out ++ s.pop.1.toList).length : Int) ≠ len) ∨
        (len = 0 ∧ s.pop.1 ≠ none) ∨
        (len < 0 ∧ s.pop.1 ≠ none ∧ ((s.out ++ s.pop.1.toList).length : Int) ≠ -len)) →
      step s = .next { s.pop.2 with out := s.out ++ s.pop.1.toList, miss := 0, phase := .drain })

/-! ## The Ring Buffer -/

/-- 42_ring_buffer R90: a `push` on a ring that is not full writes slot `head` and advances it modulo `C`, and every
other slot reads as before; on a full ring it raises `Overrun`, sets `ovr` and changes nothing else. -/
def Obligations.PushStoresAtHeadOrOverruns : Prop :=
  ∀ (s : State) (b : Byte), s.head < s.cfg.capacity →
    ((s.head + 1) % s.cfg.capacity ≠ s.tail →
      (s.push b).1 = none ∧
      (s.push b).2 = { s with
        buf := Memory.write s.buf s.head b, head := (s.head + 1) % s.cfg.capacity } ∧
      Memory.read (s.push b).2.buf s.head = some b ∧
      ∀ a, a ≠ s.head → Memory.read (s.push b).2.buf a = Memory.read s.buf a) ∧
    ((s.head + 1) % s.cfg.capacity = s.tail → s.push b = (some .overrun, { s with ovr := true }))

/-- 42_ring_buffer R91: `pop` on an empty ring returns `none` and changes nothing; otherwise it returns the byte in slot
`tail` and advances `tail` modulo `C`, clearing no slot. -/
def Obligations.PopTakesTheByteAtTail : Prop :=
  ∀ s : State, s.tail < s.cfg.capacity →
    (s.head = s.tail → s.pop = (none, s)) ∧
    (∀ b, s.head ≠ s.tail → Memory.read s.buf s.tail = some b →
      s.pop = (some b, { s with tail := (s.tail + 1) % s.cfg.capacity }))

/-- 42_ring_buffer R92, 10_state R16: `len()` lies in `0 .. C-1`, is `head - tail` or `head - tail + C`, is 0 exactly
when the ring is empty and `C - 1` exactly when it is full. -/
def Obligations.LenCountsTheUnreadBytes : Prop :=
  ∀ s : State, 2 ≤ s.cfg.capacity → s.head < s.cfg.capacity → s.tail < s.cfg.capacity →
    s.len < s.cfg.capacity ∧
    (s.tail ≤ s.head → s.len = s.head - s.tail) ∧
    (s.head < s.tail → s.len = s.head + s.cfg.capacity - s.tail) ∧
    (s.len = 0 ↔ s.head = s.tail) ∧
    (s.len = s.cfg.capacity - 1 ↔ (s.head + 1) % s.cfg.capacity = s.tail)

/-- 42_ring_buffer R94, 10_state R16 (e): in every state of the invariant, a successful `push` puts its byte behind the
unread bytes, and a successful `pop` takes the first of them and leaves the others. -/
def Obligations.PushAppendsAndPopTakesTheFirst : Prop :=
  ∀ s : State, s.Inv →
    (∀ (b : Byte) (t : State), s.push b = (none, t) → t.contents = s.contents ++ [b]) ∧
    (∀ (b : Byte) (t : State), s.pop = (some b, t) → s.contents = b :: t.contents) ∧
    (s.pop.1 = none ↔ s.contents = [])

/-- 42_ring_buffer R94, 90_conflicts C2: pushing up to `C - 1` bytes into an empty ring and popping as many times gives
them back in order and leaves the ring empty; a sequence of `C` bytes overruns. -/
def Obligations.FifoRoundTrip : Prop :=
  ∀ (s : State) (bytes : List Byte), 2 ≤ s.cfg.capacity → s.head < s.cfg.capacity → s.head = s.tail →
    (bytes.length ≤ s.cfg.capacity - 1 →
      ∃ t, State.pushAll bytes s = some t ∧
        (State.popN bytes.length t).1 = bytes.map some ∧
        (State.popN bytes.length t).2.head = (State.popN bytes.length t).2.tail) ∧
    (bytes.length = s.cfg.capacity → State.pushAll bytes s = none)

/-! ## Invariants -/

/-- 10_state R16, R17, 46_sequencer R149: every step keeps the invariant of the block. -/
def Obligations.StepKeepsTheInvariant : Prop :=
  ∀ s t : State, s.Inv → step s = .next t → t.Inv

/-- 10_state R26: the state after reset has the invariant. The values of the registers R26 leaves open are the model's
(log 4); none of them bears on it but the budget 0. -/
def Obligations.ResetHasTheInvariant : Prop := State.reset.Inv

/-- 10_state R26, 70_reset R185, R187: when the reset input is asserted, the step takes the block to `open = 0`,
`ovr = 0`, `head = tail = 0`, IDLE, whatever it was doing; no exchange is made, no result is delivered, and the chip
and the parameters are left as they are. `State.reset` has the same values. The model's choices: the reset input falls
with the step, and the collaborator's outcomes are left alone (log 12); the host's requests stay (log 31). -/
def Obligations.ResetAbandonsTheOperation : Prop :=
  (∀ s t : State, s.rst = true → step s = .next t →
    t.isOpen = false ∧ t.ovr = false ∧ t.head = 0 ∧ t.tail = 0 ∧ t.phase = .idle ∧ t.rst = false ∧
      t.wire = s.wire ∧ t.answers = s.answers ∧ t.delivered = s.delivered ∧ t.cfg = s.cfg ∧
      t.requests = s.requests ∧ t.handles = s.handles) ∧
  State.reset.isOpen = false ∧ State.reset.ovr = false ∧ State.reset.head = 0 ∧ State.reset.tail = 0 ∧
    State.reset.phase = .idle

/-- 43_byte_api R102 (a): the block never transmits into a transmitter that is not ready: every write-data exchange
comes directly after a status poll answered with `R = 0` and `T = 1`, and every step keeps it so. -/
def Obligations.BytesAreSentOnlyAfterAReadyStatus : Prop :=
  ∀ s t : State, s.cfg.WF → s.neverSendsUnready = true → step s = .next t → t.neverSendsUnready = true

/-- 30_encoding R65, 60_exceptions R177 (c): the block never sends a word that is not one of its command words. -/
def Obligations.OnlyCommandWordsAreSent : Prop :=
  ∀ s t : State, s.cfg.WF → s.sendsOnlyCommands = true → step s = .next t → t.sendsOnlyCommands = true

/-- 10_state R12, 60_exceptions R160, R161: without reset, `ovr` once set is cleared by nothing but the successful end of
an `open`; and it is set only by a push that finds the ring full, which leaves the ring as it is and ends the operation
with `Overrun`. -/
def Obligations.OverrunFlagIsSticky : Prop :=
  ∀ s t : State, s.rst = false → step s = .next t →
    (s.ovr = true → t.ovr = true ∨ (s.phase = .cfg ∧ t.isOpen = true ∧ t.delivered = s.delivered ++ [.ok])) ∧
    (s.ovr = false → t.ovr = true →
      s.full = true ∧ t.buf = s.buf ∧ t.head = s.head ∧ t.tail = s.tail ∧ t.phase = .idle ∧
        t.delivered = s.delivered ++ [.error .overrun])

/-- 10_state R17: `maxMisses` is changed by nothing but the successful end of an `open` (and reset). -/
def Obligations.BudgetIsConstantInASession : Prop :=
  ∀ s t : State, s.rst = false → step s = .next t → t.maxMisses ≠ s.maxMisses →
    s.phase = .cfg ∧ t.isOpen = true ∧ t.maxMisses = argMisses s.arg ∧ t.delivered = s.delivered ++ [.ok]

/-- 20_memory R30, R31, 10_state R15: the ring's slots. An instruction that is no read-data, write-data or reply
exchange changes none, but for the write-config exchange of a successful `open`; a read-data, write-data or reply
exchange changes none but slot `head`; and so does a step without reset. -/
def Obligations.OnlyTheSlotAtHeadIsWritten : Prop :=
  (∀ (i : Instr) (s t : State), exec i s = .next t → ¬(s.phase = .cfg ∧ t.isOpen = true) →
    ∀ a, a ≠ s.headSlot → Memory.read t.buf a = Memory.read s.buf a) ∧
  (∀ (i : Instr) (s t : State), exec i s = .next t →
    i ≠ .readData → (∀ d, i ≠ .writeData d) → (∀ r, i ≠ .reply r) →
    ¬((∃ baud, i = .writeConf baud) ∧ t.isOpen = true) →
    ∀ a, Memory.read t.buf a = Memory.read s.buf a) ∧
  ∀ s t : State, s.rst = false → step s = .next t → ¬(s.phase = .cfg ∧ t.isOpen = true) →
    ∀ a, (a ≠ s.headSlot ∨ s.phase = .idle ∨ s.phase = .poll) → Memory.read t.buf a = Memory.read s.buf a

/-- 46_sequencer R147: an operation completes exactly when a step moves `phase` to IDLE, and it delivers exactly one
result then; a step that does not end in IDLE delivers none. -/
def Obligations.CompletionDeliversOneResult : Prop :=
  ∀ s t : State, s.rst = false → step s = .next t →
    (t.delivered = s.delivered ∨ ∃ v, t.delivered = s.delivered ++ [v] ∧ t.phase = .idle) ∧
    (s.phase ≠ .idle → t.phase = .idle → ∃ v, t.delivered = s.delivered ++ [v])

/-- 46_sequencer R149 (f) as it stands: `ovr = 1` implies IDLE. Every step keeps it. (It fails: a block that overran and
was closed still has `ovr = 1` when a new `open` takes it to `CFG`; log 20.) -/
def Obligations.OverrunFlagImpliesIdleAsR149Says : Prop :=
  ∀ s t : State, s.Inv → s.rst = false → (s.ovr = true → s.phase = .idle) → step s = .next t →
    (t.ovr = true → t.phase = .idle)

/-- 70_reset R188: two closed blocks that differ only in what an earlier session left (`ovr`, the ring, the budget and
the sequencer registers) give the same results, exchanges and refusals step by step, and once a session is open they
agree on the ring, `ovr` and the budget as well. And so it stays, in that session and later: any two blocks that agree on
all but what is stale (`State.live`: the sequencer registers their phase does not use, and what a closed block keeps of
its last session) still do after a step, results and exchanges included. -/
def Obligations.ClosedBlockForgetsItsSession : Prop :=
  (∀ s s' t t' : State, s.isOpen = false → s'.isOpen = false → s.rst = false → s'.rst = false →
      (s.phase = .idle ∨ s.phase = .cfg) → s.phase = s'.phase → (s.phase = .cfg → s.arg = s'.arg) →
      s.cfg = s'.cfg → s.requests = s'.requests → s.delivered = s'.delivered → s.answers = s'.answers →
      s.wire = s'.wire → s.handles = s'.handles → s.handleOps = s'.handleOps → s.session = s'.session →
      step s = .next t → step s' = .next t' →
      t.phase = t'.phase ∧ t.isOpen = t'.isOpen ∧ t.delivered = t'.delivered ∧ t.wire = t'.wire ∧
        t.requests = t'.requests ∧ t.answers = t'.answers ∧ t.session = t'.session ∧ t.cfg = t'.cfg ∧
        t.handles = t'.handles ∧ t.handleOps = t'.handleOps ∧
        (t.phase = .cfg → t.arg = t'.arg) ∧
        (t.isOpen = true →
          t.ovr = t'.ovr ∧ t.head = t'.head ∧ t.tail = t'.tail ∧ t.buf = t'.buf ∧ t.maxMisses = t'.maxMisses)) ∧
  ∀ s s' t t' : State, s.live = s'.live → step s = .next t → step s' = .next t' →
    t.live = t'.live ∧ t.delivered = t'.delivered ∧ t.wire = t'.wire ∧ t.isOpen = t'.isOpen ∧ t.phase = t'.phase

/-! ## Whole operations -/

/-- 00_scope R9, 46_sequencer R146: when the procedure of a host operation returns or raises an error, the machine,
given that request in IDLE, completes with the same result, having made the same exchanges and left the same block. -/
def Obligations.MachineFollowsTheProcedures : Prop :=
  ∀ (s : State) (i : Instr) (rest : List Instr) (fuel : Nat) (v : Result) (t : State),
    s.rst = false → s.phase = .idle → s.requests = i :: rest →
    (callOperation fuel i { s with requests := rest } = .ret v t ∨
      ∃ e, v = .error e ∧ callOperation fuel i { s with requests := rest } = .raised e t) →
    ∃ n u, Reaches (n + 1) s u ∧ u.phase = .idle ∧ u.requests = rest ∧
      u.delivered = s.delivered ++ [v] ∧ u.shared = t.shared

/-- 46_sequencer R146, the other way: when the machine has completed a request, its procedure returns or raises that
very result, with the same exchanges and the same block. So one ends exactly when the other does. -/
def Obligations.ProceduresFollowTheMachine : Prop :=
  ∀ (s u : State) (i : Instr) (rest : List Instr) (n : Nat) (v : Result),
    s.rst = false → s.phase = .idle → s.requests = i :: rest → i.format = .hop →
    Reaches (n + 1) s u → u.phase = .idle → u.requests = rest → u.delivered = s.delivered ++ [v] →
    ∃ fuel t, u.shared = t.shared ∧
      (callOperation fuel i { s with requests := rest } = .ret v t ∨
        ∃ e, v = .error e ∧ callOperation fuel i { s with requests := rest } = .raised e t)

/-- 41_drain R84: a Drain Loop always ends, whatever the environment answers: with `F` free slots at entry it makes at
most `(F + 1) * maxMisses` exchanges. -/
def Obligations.DrainLoopAlwaysEnds : Prop :=
  ∀ (s : State) (fuel : Nat), s.Inv →
    (s.cfg.capacity - s.len) * s.maxMisses < fuel →
    (∃ t, callFetchPending fuel s = .ret () t ∧
        t.wire.length ≤ s.wire.length + (s.cfg.capacity - s.len) * s.maxMisses) ∨
      ∃ e t, callFetchPending fuel s = .raised e t ∧
        t.wire.length ≤ s.wire.length + (s.cfg.capacity - s.len) * s.maxMisses

/-- 41_drain R84: a Drain Loop that returns after `h` hits has made between `h + maxMisses` and `(h + 1) * maxMisses`
exchanges, none when `maxMisses = 0`, and the ring holds `h` bytes more, behind the others. -/
def Obligations.DrainLoopCostsBetweenItsBounds : Prop :=
  ∀ (s t : State) (fuel : Nat), s.Inv → callFetchPending fuel s = .ret () t →
    ∃ got : List Byte, t.contents = s.contents ++ got ∧
      (s.maxMisses = 0 → t = s) ∧
      (1 ≤ s.maxMisses →
        s.wire.length + got.length + s.maxMisses ≤ t.wire.length ∧
        t.wire.length ≤ s.wire.length + (got.length + 1) * s.maxMisses)

/-- 41_drain R88, R82: the bytes a Drain Loop that returns has added to the ring are exactly the data bytes of the
replies with `R = 1`, in arrival order. -/
def Obligations.DrainLoopStoresEveryHit : Prop :=
  ∀ (s t : State) (fuel : Nat), s.Inv → callFetchPending fuel s = .ret () t →
    ∃ replies : List Word,
      t.wire = s.wire ++ replies.map (fun r => ⟨encodeReadData s.cfg, .word r⟩) ∧
      t.contents = s.contents ++
        (replies.filter fun r => r.getLsbD s.cfg.rBit).map fun r => r.extractLsb' 0 8

/-- 43_byte_api R102: a `putByte` that succeeds makes exactly one write-data exchange, directly after a ready status,
and no exchange after it is anything but a read-data. -/
def Obligations.PutByteSendsItsByteOnce : Prop :=
  ∀ (s t : State) (fuel : Nat) (b : Byte), s.cfg.WF → callPutBody fuel b s = .ret () t →
    ∃ (early late : List Exchange) (r r' : Word),
      t.wire = s.wire ++ early ++
        [⟨encodeReadConfig s.cfg, .word r⟩, ⟨encodeWriteData s.cfg b, .word r'⟩] ++ late ∧
      r.getLsbD s.cfg.rBit = false ∧ r.getLsbD s.cfg.tBit = true ∧
      (∀ x ∈ early, isWriteData s.cfg x = false) ∧
      ∀ x ∈ late, x.sent = encodeReadData s.cfg

/-- 44_block_api R115, R119, 70_reset R199: against an environment that always answers ready and without data, a
`write` of `n` bytes takes its acceptance and `2n` exchange steps, sends each byte once, in order, each after one status
poll, gives `Ok`, and changes nothing of the ring. -/
def Obligations.WriteSendsEveryByteInOrder : Prop :=
  ∀ (s : State) (bytes : List Byte) (rest : List Instr) (replies : List Word) (more : List Answer),
    s.rst = false → s.phase = .idle → s.isOpen = true → s.ovr = false → s.requests = .write bytes :: rest →
    bytes ≠ [] → bytes.length ≤ s.cfg.maxWrite → replies.length = 2 * bytes.length →
    s.answers = replies.map .word ++ more →
    (∀ r ∈ replies, r.getLsbD s.cfg.rBit = false ∧ r.getLsbD s.cfg.tBit = true) →
    ∃ t, Reaches (1 + 2 * bytes.length) s t ∧ t.phase = .idle ∧ t.requests = rest ∧ t.answers = more ∧
      t.delivered = s.delivered ++ [.ok] ∧ t.head = s.head ∧ t.tail = s.tail ∧ t.buf = s.buf ∧ t.ovr = false ∧
      t.wire.map (fun x => x.sent) = s.wire.map (fun x => x.sent) ++
        bytes.flatMap fun b => [encodeReadConfig s.cfg, encodeWriteData s.cfg b]

/-- 43_byte_api R103 to R105: against an environment whose next `maxMisses` replies carry no byte, `getByte` gives the
oldest unread byte or `none`, `available` the number of unread bytes and `clear` an empty ring, each after exactly
`maxMisses` exchanges. -/
def Obligations.ReadingOperationsAfterAQuietDrain : Prop :=
  ∀ (s : State) (i : Instr) (rest : List Instr) (replies : List Word) (more : List Answer), s.Inv →
    s.rst = false → s.phase = .idle → s.isOpen = true → s.ovr = false → s.requests = i :: rest →
    replies.length = s.maxMisses → s.answers = replies.map .word ++ more →
    (∀ r ∈ replies, r.getLsbD s.cfg.rBit = false) →
    (i = .getByte ∨ i = .available ∨ i = .clear) →
    ∃ t v, Reaches (s.maxMisses + 2) s t ∧ t.phase = .idle ∧ t.requests = rest ∧
      t.wire.length = s.wire.length + s.maxMisses ∧ t.delivered = s.delivered ++ [v] ∧
      (i = .getByte → v = .byte s.contents.head? ∧ t.contents = s.contents.tail) ∧
      (i = .available → v = .count s.contents.length ∧ t.contents = s.contents) ∧
      (i = .clear → v = .ok ∧ t.contents = [] ∧ t.head = 0 ∧ t.tail = 0)

/-- 60_exceptions R160, 45_session R125, R126: a session that overran is recovered by `close` and `open`: three steps
later the session is open, `ovr` is 0, the ring is empty and both operations gave `Ok`. -/
def Obligations.CloseAndOpenRecoverFromAnOverrun : Prop :=
  ∀ (s : State) (baud : BitVec 4) (mm : Nat) (rest : List Instr) (r : Word) (more : List Answer)
    (others : List Bool),
    s.rst = false → s.phase = .idle → s.isOpen = true → s.ovr = true →
    s.requests = .closeSession :: .openSession baud mm :: rest → mm < 2 ^ s.cfg.missW →
    s.answers = .word r :: more → s.handles = true :: true :: others →
    ∃ t, Reaches 3 s t ∧ t.phase = .idle ∧ t.isOpen = true ∧ t.ovr = false ∧ t.contents = [] ∧
      t.maxMisses = mm ∧ t.requests = rest ∧ t.delivered = s.delivered ++ [.ok, .ok] ∧
      t.wire = s.wire ++ [⟨encodeWriteConfig s.cfg (openPayload s.cfg baud), .word r⟩]

/-- 70_reset R190, 60_exceptions R170: the wait loop has no bound: as long as every status has `R = 0` and `T = 0`, the
block polls, one exchange a step, and delivers nothing. -/
def Obligations.WaitLoopHasNoBound : Prop :=
  ∀ (n : Nat) (s t : State) (replies : List Word) (more : List Answer), s.rst = false → s.phase = .poll →
    replies.length = n → s.answers = replies.map .word ++ more →
    (∀ r ∈ replies, r.getLsbD s.cfg.rBit = false ∧ r.getLsbD s.cfg.tBit = false) → Reaches n s t →
    t = { s with
      answers := more
      wire := s.wire ++ replies.map fun r => ⟨encodeReadConfig s.cfg, .word r⟩ }

/-- 70_reset R191, 44_block_api R117 (g): with `maxMisses = 0` a blocking `read` on an empty ring spins for ever inside
the block: it makes no exchange, delivers nothing and changes nothing. -/
def Obligations.BlockingReadWithoutBudgetSpins : Prop :=
  ∀ (n : Nat) (s : State) (len : Int), s.rst = false → s.phase = .drain → s.ret = .get → s.arg = .read len →
    0 < len → (s.out.length : Int) < len → s.head = s.tail → s.maxMisses = 0 → s.miss = 0 → Reaches n s s

/-- 60_exceptions R156: the status code of each kind of result. -/
def Obligations.StatusCodesOfResults : Prop :=
  Result.code .ok = 0 ∧ (∀ b, Result.code (.byte b) = 0) ∧ (∀ n, Result.code (.count n) = 0) ∧
  (∀ xs, Result.code (.bytes xs) = 0) ∧ Result.code (.error .notOpen) = 1 ∧
  Result.code (.error .alreadyOpen) = 2 ∧ Result.code (.error .validation) = 3 ∧
  Result.code (.error .overrun) = 4 ∧ Result.code (.error .ioError) = 5

/-- 30_encoding R65: a command word is recognised by its two high bits alone, whatever its payload: each of the four
tags names its command, and the word of each command row, and a write-config word with any payload, is recognised as its
row. With the default tags the patterns are `00`, `01`, `10` and `11`. -/
def Obligations.CommandsAreRecognisedByTheirTagAlone : Prop :=
  (∀ (cfg : Config) (w : Word), cfg.WF →
    (commandKind cfg w = .readData ↔ w.extractLsb' 14 2 = cfg.tagReadData) ∧
    (commandKind cfg w = .readConf ↔ w.extractLsb' 14 2 = cfg.tagReadConf) ∧
    (commandKind cfg w = .writeData ↔ w.extractLsb' 14 2 = cfg.tagWriteData) ∧
    (commandKind cfg w = .writeConf ↔ w.extractLsb' 14 2 = cfg.tagWriteConf)) ∧
  (∀ (cfg : Config) (i : Instr) (w : Word), cfg.WF → commandWord cfg i = some w →
    i.commandKind = some (commandKind cfg w)) ∧
  (∀ (cfg : Config) (bits : BitVec 14), cfg.WF → commandKind cfg (encodeWriteConfig cfg bits) = .writeConf) ∧
  ∀ payload : BitVec 14,
    commandKind .standard (0b00#2 ++ payload) = .readData ∧ commandKind .standard (0b01#2 ++ payload) = .readConf ∧
    commandKind .standard (0b10#2 ++ payload) = .writeData ∧ commandKind .standard (0b11#2 ++ payload) = .writeConf
end

