-- ==== Sys2Proof/Laws/Live.lean ====
section
/-! SUPPORT. What `State.live` keeps of every state, and what the tag and payload of a command word are. -/

namespace Sys2Proof.Machine

/-- The tag of a command word is the tag it was built from. -/
@[simp] theorem commandOf_tag (tag : BitVec 2) (payload : BitVec 14) :
    (commandOf tag payload).extractLsb' 14 2 = tag := BitVec.extractLsb'_append_eq_left

/-- The payload of a command word is the payload it was built from. -/
@[simp] theorem commandOf_payload (tag : BitVec 2) (payload : BitVec 14) :
    (commandOf tag payload).extractLsb' 0 14 = payload := BitVec.extractLsb'_append_eq_right

@[simp] theorem State.live_cfg (s : State) : s.live.cfg = s.cfg := by
  unfold State.live; cases h : s.phase <;> dsimp only <;> split <;> rfl

@[simp] theorem State.live_isOpen (s : State) : s.live.isOpen = s.isOpen := by
  unfold State.live; cases h : s.phase <;> dsimp only <;> split <;> rfl

@[simp] theorem State.live_session (s : State) : s.live.session = s.session := by
  unfold State.live; cases h : s.phase <;> dsimp only <;> split <;> rfl

@[simp] theorem State.live_phase (s : State) : s.live.phase = s.phase := by
  unfold State.live; cases h : s.phase <;> dsimp only <;> split <;> rfl

@[simp] theorem State.live_rst (s : State) : s.live.rst = s.rst := by
  unfold State.live; cases h : s.phase <;> dsimp only <;> split <;> rfl

@[simp] theorem State.live_requests (s : State) : s.live.requests = s.requests := by
  unfold State.live; cases h : s.phase <;> dsimp only <;> split <;> rfl

@[simp] theorem State.live_delivered (s : State) : s.live.delivered = s.delivered := by
  unfold State.live; cases h : s.phase <;> dsimp only <;> split <;> rfl

@[simp] theorem State.live_answers (s : State) : s.live.answers = s.answers := by
  unfold State.live; cases h : s.phase <;> dsimp only <;> split <;> rfl

@[simp] theorem State.live_wire (s : State) : s.live.wire = s.wire := by
  unfold State.live; cases h : s.phase <;> dsimp only <;> split <;> rfl

@[simp] theorem State.live_handles (s : State) : s.live.handles = s.handles := by
  unfold State.live; cases h : s.phase <;> dsimp only <;> split <;> rfl

@[simp] theorem State.live_handleOps (s : State) : s.live.handleOps = s.handleOps := by
  unfold State.live; cases h : s.phase <;> dsimp only <;> split <;> rfl

end Sys2Proof.Machine
end

