-- ==== Sys2Proof/Laws/Memory.lean ====
section
/-! SUPPORT. The laws of the ring space: a read after a write, the canonical form, and the bound on slot numbers. -/

namespace Sys2Proof.Machine

/-- A read after a write to the same slot gives the byte written. -/
@[simp] theorem memory_read_write_same (m : List Host.Cell) (i : Nat) (v : Byte) :
    Memory.read (Memory.write m i v) i = some v := by
  induction m with
  | nil => simp [Memory.write, Memory.read]
  | cons c m ih =>
    obtain ⟨a, x⟩ := c
    simp only [Memory.write]
    split_ifs with h₁ h₂
    · simp [Memory.read]
    · simp [Memory.read]
    · simp [Memory.read, h₂, ih]

/-- A write leaves every other slot as it was. -/
theorem memory_read_write_other (m : List Host.Cell) {i j : Nat} (v : Byte) (h : j ≠ i) :
    Memory.read (Memory.write m i v) j = Memory.read m j := by
  induction m with
  | nil => simp [Memory.write, Memory.read, h.symm]
  | cons c m ih =>
    obtain ⟨a, x⟩ := c
    simp only [Memory.write]
    split_ifs with h₁ h₂
    · simp [Memory.read, h.symm]
    · subst h₂
      simp [Memory.read, h.symm]
    · simp [Memory.read, ih]

/-- The first slot number of a canonical list is below the others. -/
theorem memory_wf_cons (a : Nat) (x : Byte) (m : List Host.Cell) :
    Memory.wf ((a, x) :: m) = true ↔ (∀ c ∈ m.head?, a < c.1) ∧ Memory.wf m = true := by
  cases m with
  | nil => simp [Memory.wf]
  | cons c m => simp [Memory.wf]

/-- The first entry after a write is the old first entry or the one written. -/
theorem memory_write_head (m : List Host.Cell) (i : Nat) (v : Byte) (c : Host.Cell)
    (h : (Memory.write m i v).head? = some c) : c = (i, v) ∨ m.head? = some c := by
  cases m with
  | nil => simp [Memory.write] at h; exact .inl h.symm
  | cons d m =>
    obtain ⟨a, x⟩ := d
    simp only [Memory.write] at h
    split_ifs at h <;> simp at h <;> simp [h]

/-- A write keeps the canonical form. -/
theorem memory_write_wf (m : List Host.Cell) (i : Nat) (v : Byte) (h : Memory.wf m = true) :
    Memory.wf (Memory.write m i v) = true := by
  induction m with
  | nil => simp [Memory.write, Memory.wf]
  | cons c m ih =>
    obtain ⟨a, x⟩ := c
    have hm := (memory_wf_cons a x m).1 h
    simp only [Memory.write]
    split_ifs with h₁ h₂
    · exact (memory_wf_cons i v _).2 ⟨by simp [h₁], h⟩
    · subst h₂
      exact (memory_wf_cons a v m).2 hm
    · refine (memory_wf_cons a x _).2 ⟨fun c hc => ?_, ih hm.2⟩
      rcases memory_write_head m i v c hc with rfl | hc
      · show a < i
        omega
      · exact hm.1 c hc

/-- A write below `n` keeps every slot number below `n`. -/
theorem memory_write_lt (m : List Host.Cell) (i n : Nat) (v : Byte) (hi : i < n) (h : ∀ c ∈ m, c.1 < n) :
    ∀ c ∈ Memory.write m i v, c.1 < n := by
  induction m with
  | nil => simpa [Memory.write] using hi
  | cons d m ih =>
    obtain ⟨a, x⟩ := d
    intro c hc
    simp only [Memory.write] at hc
    have hm : ∀ c ∈ m, c.1 < n := fun c hc => h c (List.mem_cons_of_mem _ hc)
    split_ifs at hc with h₁ h₂
    · rcases List.mem_cons.1 hc with rfl | hc
      · exact hi
      · exact h c hc
    · rcases List.mem_cons.1 hc with rfl | hc
      · exact hi
      · exact hm c hc
    · rcases List.mem_cons.1 hc with rfl | hc
      · exact h (a, x) List.mem_cons_self
      · exact ih hm c hc

/-- The memory of the state after reset is canonical. -/
theorem reset_buf_wf : Memory.wf State.reset.buf = true := rfl

/-- The stores of the state keep the canonical form. -/
theorem memWrite_wf (s : State) (i : Nat) (v : Byte) (h : Memory.wf s.buf = true) :
    Memory.wf (s.memWrite i v).buf = true := memory_write_wf s.buf i v h

end Sys2Proof.Machine
end

