-- ==== Sys2Proof/Laws/State.lean ====
section
/-! SUPPORT. What each update of the state does to each field: one lemma a field, true by definition. -/

namespace Sys2Proof.Machine

/-! ## `memWrite` -/

@[simp] theorem State.memWrite_cfg (s : State) (i : Nat) (v : Byte) : (s.memWrite i v).cfg = s.cfg := rfl
@[simp] theorem State.memWrite_isOpen (s : State) (i : Nat) (v : Byte) : (s.memWrite i v).isOpen = s.isOpen := rfl
@[simp] theorem State.memWrite_ovr (s : State) (i : Nat) (v : Byte) : (s.memWrite i v).ovr = s.ovr := rfl
@[simp] theorem State.memWrite_head (s : State) (i : Nat) (v : Byte) : (s.memWrite i v).head = s.head := rfl
@[simp] theorem State.memWrite_tail (s : State) (i : Nat) (v : Byte) : (s.memWrite i v).tail = s.tail := rfl
@[simp] theorem State.memWrite_buf (s : State) (i : Nat) (v : Byte) : (s.memWrite i v).buf = Memory.write s.buf i v := rfl
@[simp] theorem State.memWrite_maxMisses (s : State) (i : Nat) (v : Byte) : (s.memWrite i v).maxMisses = s.maxMisses := rfl
@[simp] theorem State.memWrite_miss (s : State) (i : Nat) (v : Byte) : (s.memWrite i v).miss = s.miss := rfl
@[simp] theorem State.memWrite_session (s : State) (i : Nat) (v : Byte) : (s.memWrite i v).session = s.session := rfl
@[simp] theorem State.memWrite_phase (s : State) (i : Nat) (v : Byte) : (s.memWrite i v).phase = s.phase := rfl
@[simp] theorem State.memWrite_ret (s : State) (i : Nat) (v : Byte) : (s.memWrite i v).ret = s.ret := rfl
@[simp] theorem State.memWrite_txb (s : State) (i : Nat) (v : Byte) : (s.memWrite i v).txb = s.txb := rfl
@[simp] theorem State.memWrite_arg (s : State) (i : Nat) (v : Byte) : (s.memWrite i v).arg = s.arg := rfl
@[simp] theorem State.memWrite_bi (s : State) (i : Nat) (v : Byte) : (s.memWrite i v).bi = s.bi := rfl
@[simp] theorem State.memWrite_out (s : State) (i : Nat) (v : Byte) : (s.memWrite i v).out = s.out := rfl
@[simp] theorem State.memWrite_rst (s : State) (i : Nat) (v : Byte) : (s.memWrite i v).rst = s.rst := rfl
@[simp] theorem State.memWrite_requests (s : State) (i : Nat) (v : Byte) : (s.memWrite i v).requests = s.requests := rfl
@[simp] theorem State.memWrite_delivered (s : State) (i : Nat) (v : Byte) : (s.memWrite i v).delivered = s.delivered := rfl
@[simp] theorem State.memWrite_answers (s : State) (i : Nat) (v : Byte) : (s.memWrite i v).answers = s.answers := rfl
@[simp] theorem State.memWrite_wire (s : State) (i : Nat) (v : Byte) : (s.memWrite i v).wire = s.wire := rfl
@[simp] theorem State.memWrite_handles (s : State) (i : Nat) (v : Byte) : (s.memWrite i v).handles = s.handles := rfl
@[simp] theorem State.memWrite_handleOps (s : State) (i : Nat) (v : Byte) : (s.memWrite i v).handleOps = s.handleOps := rfl

/-! ## `store` -/

@[simp] theorem State.store_cfg (s : State) (b : Byte) : (s.store b).cfg = s.cfg := rfl
@[simp] theorem State.store_isOpen (s : State) (b : Byte) : (s.store b).isOpen = s.isOpen := rfl
@[simp] theorem State.store_ovr (s : State) (b : Byte) : (s.store b).ovr = s.ovr := rfl
@[simp] theorem State.store_head (s : State) (b : Byte) : (s.store b).head = s.advance s.head := rfl
@[simp] theorem State.store_tail (s : State) (b : Byte) : (s.store b).tail = s.tail := rfl
@[simp] theorem State.store_buf (s : State) (b : Byte) : (s.store b).buf = Memory.write s.buf s.headSlot b := rfl
@[simp] theorem State.store_maxMisses (s : State) (b : Byte) : (s.store b).maxMisses = s.maxMisses := rfl
@[simp] theorem State.store_miss (s : State) (b : Byte) : (s.store b).miss = s.miss := rfl
@[simp] theorem State.store_session (s : State) (b : Byte) : (s.store b).session = s.session := rfl
@[simp] theorem State.store_phase (s : State) (b : Byte) : (s.store b).phase = s.phase := rfl
@[simp] theorem State.store_ret (s : State) (b : Byte) : (s.store b).ret = s.ret := rfl
@[simp] theorem State.store_txb (s : State) (b : Byte) : (s.store b).txb = s.txb := rfl
@[simp] theorem State.store_arg (s : State) (b : Byte) : (s.store b).arg = s.arg := rfl
@[simp] theorem State.store_bi (s : State) (b : Byte) : (s.store b).bi = s.bi := rfl
@[simp] theorem State.store_out (s : State) (b : Byte) : (s.store b).out = s.out := rfl
@[simp] theorem State.store_rst (s : State) (b : Byte) : (s.store b).rst = s.rst := rfl
@[simp] theorem State.store_requests (s : State) (b : Byte) : (s.store b).requests = s.requests := rfl
@[simp] theorem State.store_delivered (s : State) (b : Byte) : (s.store b).delivered = s.delivered := rfl
@[simp] theorem State.store_answers (s : State) (b : Byte) : (s.store b).answers = s.answers := rfl
@[simp] theorem State.store_wire (s : State) (b : Byte) : (s.store b).wire = s.wire := rfl
@[simp] theorem State.store_handles (s : State) (b : Byte) : (s.store b).handles = s.handles := rfl
@[simp] theorem State.store_handleOps (s : State) (b : Byte) : (s.store b).handleOps = s.handleOps := rfl

/-! ## `resetEmpty` -/

@[simp] theorem State.resetEmpty_cfg (s : State) : s.resetEmpty.cfg = s.cfg := rfl
@[simp] theorem State.resetEmpty_isOpen (s : State) : s.resetEmpty.isOpen = s.isOpen := rfl
@[simp] theorem State.resetEmpty_ovr (s : State) : s.resetEmpty.ovr = s.ovr := rfl
@[simp] theorem State.resetEmpty_head (s : State) : s.resetEmpty.head = 0 := rfl
@[simp] theorem State.resetEmpty_tail (s : State) : s.resetEmpty.tail = 0 := rfl
@[simp] theorem State.resetEmpty_buf (s : State) : s.resetEmpty.buf = s.buf := rfl
@[simp] theorem State.resetEmpty_maxMisses (s : State) : s.resetEmpty.maxMisses = s.maxMisses := rfl
@[simp] theorem State.resetEmpty_miss (s : State) : s.resetEmpty.miss = s.miss := rfl
@[simp] theorem State.resetEmpty_session (s : State) : s.resetEmpty.session = s.session := rfl
@[simp] theorem State.resetEmpty_phase (s : State) : s.resetEmpty.phase = s.phase := rfl
@[simp] theorem State.resetEmpty_ret (s : State) : s.resetEmpty.ret = s.ret := rfl
@[simp] theorem State.resetEmpty_txb (s : State) : s.resetEmpty.txb = s.txb := rfl
@[simp] theorem State.resetEmpty_arg (s : State) : s.resetEmpty.arg = s.arg := rfl
@[simp] theorem State.resetEmpty_bi (s : State) : s.resetEmpty.bi = s.bi := rfl
@[simp] theorem State.resetEmpty_out (s : State) : s.resetEmpty.out = s.out := rfl
@[simp] theorem State.resetEmpty_rst (s : State) : s.resetEmpty.rst = s.rst := rfl
@[simp] theorem State.resetEmpty_requests (s : State) : s.resetEmpty.requests = s.requests := rfl
@[simp] theorem State.resetEmpty_delivered (s : State) : s.resetEmpty.delivered = s.delivered := rfl
@[simp] theorem State.resetEmpty_answers (s : State) : s.resetEmpty.answers = s.answers := rfl
@[simp] theorem State.resetEmpty_wire (s : State) : s.resetEmpty.wire = s.wire := rfl
@[simp] theorem State.resetEmpty_handles (s : State) : s.resetEmpty.handles = s.handles := rfl
@[simp] theorem State.resetEmpty_handleOps (s : State) : s.resetEmpty.handleOps = s.handleOps := rfl

/-! ## `done` -/

@[simp] theorem State.done_cfg (s : State) (v : Result) : (s.done v).cfg = s.cfg := rfl
@[simp] theorem State.done_isOpen (s : State) (v : Result) : (s.done v).isOpen = s.isOpen := rfl
@[simp] theorem State.done_ovr (s : State) (v : Result) : (s.done v).ovr = s.ovr := rfl
@[simp] theorem State.done_head (s : State) (v : Result) : (s.done v).head = s.head := rfl
@[simp] theorem State.done_tail (s : State) (v : Result) : (s.done v).tail = s.tail := rfl
@[simp] theorem State.done_buf (s : State) (v : Result) : (s.done v).buf = s.buf := rfl
@[simp] theorem State.done_maxMisses (s : State) (v : Result) : (s.done v).maxMisses = s.maxMisses := rfl
@[simp] theorem State.done_miss (s : State) (v : Result) : (s.done v).miss = s.miss := rfl
@[simp] theorem State.done_session (s : State) (v : Result) : (s.done v).session = s.session := rfl
@[simp] theorem State.done_phase (s : State) (v : Result) : (s.done v).phase = .idle := rfl
@[simp] theorem State.done_ret (s : State) (v : Result) : (s.done v).ret = s.ret := rfl
@[simp] theorem State.done_txb (s : State) (v : Result) : (s.done v).txb = s.txb := rfl
@[simp] theorem State.done_arg (s : State) (v : Result) : (s.done v).arg = s.arg := rfl
@[simp] theorem State.done_bi (s : State) (v : Result) : (s.done v).bi = s.bi := rfl
@[simp] theorem State.done_out (s : State) (v : Result) : (s.done v).out = s.out := rfl
@[simp] theorem State.done_rst (s : State) (v : Result) : (s.done v).rst = s.rst := rfl
@[simp] theorem State.done_requests (s : State) (v : Result) : (s.done v).requests = s.requests := rfl
@[simp] theorem State.done_delivered (s : State) (v : Result) : (s.done v).delivered = s.delivered ++ [v] := rfl
@[simp] theorem State.done_answers (s : State) (v : Result) : (s.done v).answers = s.answers := rfl
@[simp] theorem State.done_wire (s : State) (v : Result) : (s.done v).wire = s.wire := rfl
@[simp] theorem State.done_handles (s : State) (v : Result) : (s.done v).handles = s.handles := rfl
@[simp] theorem State.done_handleOps (s : State) (v : Result) : (s.done v).handleOps = s.handleOps := rfl

/-! ## `fail` -/

@[simp] theorem State.fail_cfg (s : State) (e : Err) : (s.fail e).cfg = s.cfg := rfl
@[simp] theorem State.fail_isOpen (s : State) (e : Err) : (s.fail e).isOpen = s.isOpen := rfl
@[simp] theorem State.fail_ovr (s : State) (e : Err) : (s.fail e).ovr = s.ovr := rfl
@[simp] theorem State.fail_head (s : State) (e : Err) : (s.fail e).head = s.head := rfl
@[simp] theorem State.fail_tail (s : State) (e : Err) : (s.fail e).tail = s.tail := rfl
@[simp] theorem State.fail_buf (s : State) (e : Err) : (s.fail e).buf = s.buf := rfl
@[simp] theorem State.fail_maxMisses (s : State) (e : Err) : (s.fail e).maxMisses = s.maxMisses := rfl
@[simp] theorem State.fail_miss (s : State) (e : Err) : (s.fail e).miss = s.miss := rfl
@[simp] theorem State.fail_session (s : State) (e : Err) : (s.fail e).session = s.session := rfl
@[simp] theorem State.fail_phase (s : State) (e : Err) : (s.fail e).phase = .idle := rfl
@[simp] theorem State.fail_ret (s : State) (e : Err) : (s.fail e).ret = s.ret := rfl
@[simp] theorem State.fail_txb (s : State) (e : Err) : (s.fail e).txb = s.txb := rfl
@[simp] theorem State.fail_arg (s : State) (e : Err) : (s.fail e).arg = s.arg := rfl
@[simp] theorem State.fail_bi (s : State) (e : Err) : (s.fail e).bi = s.bi := rfl
@[simp] theorem State.fail_out (s : State) (e : Err) : (s.fail e).out = s.out := rfl
@[simp] theorem State.fail_rst (s : State) (e : Err) : (s.fail e).rst = s.rst := rfl
@[simp] theorem State.fail_requests (s : State) (e : Err) : (s.fail e).requests = s.requests := rfl
@[simp] theorem State.fail_delivered (s : State) (e : Err) : (s.fail e).delivered = s.delivered ++ [.error e] := rfl
@[simp] theorem State.fail_answers (s : State) (e : Err) : (s.fail e).answers = s.answers := rfl
@[simp] theorem State.fail_wire (s : State) (e : Err) : (s.fail e).wire = s.wire := rfl
@[simp] theorem State.fail_handles (s : State) (e : Err) : (s.fail e).handles = s.handles := rfl
@[simp] theorem State.fail_handleOps (s : State) (e : Err) : (s.fail e).handleOps = s.handleOps := rfl

/-! ## `startDrain` -/

@[simp] theorem State.startDrain_cfg (s : State) (r : Ret) : (s.startDrain r).cfg = s.cfg := rfl
@[simp] theorem State.startDrain_isOpen (s : State) (r : Ret) : (s.startDrain r).isOpen = s.isOpen := rfl
@[simp] theorem State.startDrain_ovr (s : State) (r : Ret) : (s.startDrain r).ovr = s.ovr := rfl
@[simp] theorem State.startDrain_head (s : State) (r : Ret) : (s.startDrain r).head = s.head := rfl
@[simp] theorem State.startDrain_tail (s : State) (r : Ret) : (s.startDrain r).tail = s.tail := rfl
@[simp] theorem State.startDrain_buf (s : State) (r : Ret) : (s.startDrain r).buf = s.buf := rfl
@[simp] theorem State.startDrain_maxMisses (s : State) (r : Ret) : (s.startDrain r).maxMisses = s.maxMisses := rfl
@[simp] theorem State.startDrain_miss (s : State) (r : Ret) : (s.startDrain r).miss = 0 := rfl
@[simp] theorem State.startDrain_session (s : State) (r : Ret) : (s.startDrain r).session = s.session := rfl
@[simp] theorem State.startDrain_phase (s : State) (r : Ret) : (s.startDrain r).phase = .drain := rfl
@[simp] theorem State.startDrain_ret (s : State) (r : Ret) : (s.startDrain r).ret = r := rfl
@[simp] theorem State.startDrain_txb (s : State) (r : Ret) : (s.startDrain r).txb = s.txb := rfl
@[simp] theorem State.startDrain_arg (s : State) (r : Ret) : (s.startDrain r).arg = s.arg := rfl
@[simp] theorem State.startDrain_bi (s : State) (r : Ret) : (s.startDrain r).bi = s.bi := rfl
@[simp] theorem State.startDrain_out (s : State) (r : Ret) : (s.startDrain r).out = s.out := rfl
@[simp] theorem State.startDrain_rst (s : State) (r : Ret) : (s.startDrain r).rst = s.rst := rfl
@[simp] theorem State.startDrain_requests (s : State) (r : Ret) : (s.startDrain r).requests = s.requests := rfl
@[simp] theorem State.startDrain_delivered (s : State) (r : Ret) : (s.startDrain r).delivered = s.delivered := rfl
@[simp] theorem State.startDrain_answers (s : State) (r : Ret) : (s.startDrain r).answers = s.answers := rfl
@[simp] theorem State.startDrain_wire (s : State) (r : Ret) : (s.startDrain r).wire = s.wire := rfl
@[simp] theorem State.startDrain_handles (s : State) (r : Ret) : (s.startDrain r).handles = s.handles := rfl
@[simp] theorem State.startDrain_handleOps (s : State) (r : Ret) : (s.startDrain r).handleOps = s.handleOps := rfl

/-! ## `exchanged` -/

@[simp] theorem State.exchanged_cfg (s : State) (w : Word) (a : Answer) : (s.exchanged w a).cfg = s.cfg := rfl
@[simp] theorem State.exchanged_isOpen (s : State) (w : Word) (a : Answer) : (s.exchanged w a).isOpen = s.isOpen := rfl
@[simp] theorem State.exchanged_ovr (s : State) (w : Word) (a : Answer) : (s.exchanged w a).ovr = s.ovr := rfl
@[simp] theorem State.exchanged_head (s : State) (w : Word) (a : Answer) : (s.exchanged w a).head = s.head := rfl
@[simp] theorem State.exchanged_tail (s : State) (w : Word) (a : Answer) : (s.exchanged w a).tail = s.tail := rfl
@[simp] theorem State.exchanged_buf (s : State) (w : Word) (a : Answer) : (s.exchanged w a).buf = s.buf := rfl
@[simp] theorem State.exchanged_maxMisses (s : State) (w : Word) (a : Answer) : (s.exchanged w a).maxMisses = s.maxMisses := rfl
@[simp] theorem State.exchanged_miss (s : State) (w : Word) (a : Answer) : (s.exchanged w a).miss = s.miss := rfl
@[simp] theorem State.exchanged_session (s : State) (w : Word) (a : Answer) : (s.exchanged w a).session = s.session := rfl
@[simp] theorem State.exchanged_phase (s : State) (w : Word) (a : Answer) : (s.exchanged w a).phase = s.phase := rfl
@[simp] theorem State.exchanged_ret (s : State) (w : Word) (a : Answer) : (s.exchanged w a).ret = s.ret := rfl
@[simp] theorem State.exchanged_txb (s : State) (w : Word) (a : Answer) : (s.exchanged w a).txb = s.txb := rfl
@[simp] theorem State.exchanged_arg (s : State) (w : Word) (a : Answer) : (s.exchanged w a).arg = s.arg := rfl
@[simp] theorem State.exchanged_bi (s : State) (w : Word) (a : Answer) : (s.exchanged w a).bi = s.bi := rfl
@[simp] theorem State.exchanged_out (s : State) (w : Word) (a : Answer) : (s.exchanged w a).out = s.out := rfl
@[simp] theorem State.exchanged_rst (s : State) (w : Word) (a : Answer) : (s.exchanged w a).rst = s.rst := rfl
@[simp] theorem State.exchanged_requests (s : State) (w : Word) (a : Answer) : (s.exchanged w a).requests = s.requests := rfl
@[simp] theorem State.exchanged_delivered (s : State) (w : Word) (a : Answer) : (s.exchanged w a).delivered = s.delivered := rfl
@[simp] theorem State.exchanged_answers (s : State) (w : Word) (a : Answer) : (s.exchanged w a).answers = s.answers.tail := rfl
@[simp] theorem State.exchanged_wire (s : State) (w : Word) (a : Answer) : (s.exchanged w a).wire = s.wire ++ [⟨w, a⟩] := rfl
@[simp] theorem State.exchanged_handles (s : State) (w : Word) (a : Answer) : (s.exchanged w a).handles = s.handles := rfl
@[simp] theorem State.exchanged_handleOps (s : State) (w : Word) (a : Answer) : (s.exchanged w a).handleOps = s.handleOps := rfl

/-! ## `handleAsked` -/

@[simp] theorem State.handleAsked_cfg (s : State) : s.handleAsked.cfg = s.cfg := rfl
@[simp] theorem State.handleAsked_isOpen (s : State) : s.handleAsked.isOpen = s.isOpen := rfl
@[simp] theorem State.handleAsked_ovr (s : State) : s.handleAsked.ovr = s.ovr := rfl
@[simp] theorem State.handleAsked_head (s : State) : s.handleAsked.head = s.head := rfl
@[simp] theorem State.handleAsked_tail (s : State) : s.handleAsked.tail = s.tail := rfl
@[simp] theorem State.handleAsked_buf (s : State) : s.handleAsked.buf = s.buf := rfl
@[simp] theorem State.handleAsked_maxMisses (s : State) : s.handleAsked.maxMisses = s.maxMisses := rfl
@[simp] theorem State.handleAsked_miss (s : State) : s.handleAsked.miss = s.miss := rfl
@[simp] theorem State.handleAsked_session (s : State) : s.handleAsked.session = s.session := rfl
@[simp] theorem State.handleAsked_phase (s : State) : s.handleAsked.phase = s.phase := rfl
@[simp] theorem State.handleAsked_ret (s : State) : s.handleAsked.ret = s.ret := rfl
@[simp] theorem State.handleAsked_txb (s : State) : s.handleAsked.txb = s.txb := rfl
@[simp] theorem State.handleAsked_arg (s : State) : s.handleAsked.arg = s.arg := rfl
@[simp] theorem State.handleAsked_bi (s : State) : s.handleAsked.bi = s.bi := rfl
@[simp] theorem State.handleAsked_out (s : State) : s.handleAsked.out = s.out := rfl
@[simp] theorem State.handleAsked_rst (s : State) : s.handleAsked.rst = s.rst := rfl
@[simp] theorem State.handleAsked_requests (s : State) : s.handleAsked.requests = s.requests := rfl
@[simp] theorem State.handleAsked_delivered (s : State) : s.handleAsked.delivered = s.delivered := rfl
@[simp] theorem State.handleAsked_answers (s : State) : s.handleAsked.answers = s.answers := rfl
@[simp] theorem State.handleAsked_wire (s : State) : s.handleAsked.wire = s.wire := rfl
@[simp] theorem State.handleAsked_handles (s : State) : s.handleAsked.handles = s.handles.tail := rfl
@[simp] theorem State.handleAsked_handleOps (s : State) : s.handleAsked.handleOps = s.handleOps + 1 := rfl

/-! ## `openEffect` -/

@[simp] theorem State.openEffect_cfg (s : State) (mm : Nat) : (s.openEffect mm).cfg = s.cfg := rfl
@[simp] theorem State.openEffect_isOpen (s : State) (mm : Nat) : (s.openEffect mm).isOpen = true := rfl
@[simp] theorem State.openEffect_ovr (s : State) (mm : Nat) : (s.openEffect mm).ovr = false := rfl
@[simp] theorem State.openEffect_head (s : State) (mm : Nat) : (s.openEffect mm).head = 0 := rfl
@[simp] theorem State.openEffect_tail (s : State) (mm : Nat) : (s.openEffect mm).tail = 0 := rfl
@[simp] theorem State.openEffect_buf (s : State) (mm : Nat) : (s.openEffect mm).buf = [] := rfl
@[simp] theorem State.openEffect_maxMisses (s : State) (mm : Nat) : (s.openEffect mm).maxMisses = mm := rfl
@[simp] theorem State.openEffect_miss (s : State) (mm : Nat) : (s.openEffect mm).miss = s.miss := rfl
@[simp] theorem State.openEffect_session (s : State) (mm : Nat) : (s.openEffect mm).session =
    some ⟨Config.handle s.handleOps, s.cfg.bpw, s.cfg.busSpeedHz⟩ := rfl
@[simp] theorem State.openEffect_phase (s : State) (mm : Nat) : (s.openEffect mm).phase = s.phase := rfl
@[simp] theorem State.openEffect_ret (s : State) (mm : Nat) : (s.openEffect mm).ret = s.ret := rfl
@[simp] theorem State.openEffect_txb (s : State) (mm : Nat) : (s.openEffect mm).txb = s.txb := rfl
@[simp] theorem State.openEffect_arg (s : State) (mm : Nat) : (s.openEffect mm).arg = s.arg := rfl
@[simp] theorem State.openEffect_bi (s : State) (mm : Nat) : (s.openEffect mm).bi = s.bi := rfl
@[simp] theorem State.openEffect_out (s : State) (mm : Nat) : (s.openEffect mm).out = s.out := rfl
@[simp] theorem State.openEffect_rst (s : State) (mm : Nat) : (s.openEffect mm).rst = s.rst := rfl
@[simp] theorem State.openEffect_requests (s : State) (mm : Nat) : (s.openEffect mm).requests = s.requests := rfl
@[simp] theorem State.openEffect_delivered (s : State) (mm : Nat) : (s.openEffect mm).delivered = s.delivered := rfl
@[simp] theorem State.openEffect_answers (s : State) (mm : Nat) : (s.openEffect mm).answers = s.answers := rfl
@[simp] theorem State.openEffect_wire (s : State) (mm : Nat) : (s.openEffect mm).wire = s.wire := rfl
@[simp] theorem State.openEffect_handles (s : State) (mm : Nat) : (s.openEffect mm).handles = s.handles := rfl
@[simp] theorem State.openEffect_handleOps (s : State) (mm : Nat) : (s.openEffect mm).handleOps = s.handleOps := rfl

/-! ## `closeEffect` -/

@[simp] theorem State.closeEffect_cfg (s : State) : s.closeEffect.cfg = s.cfg := rfl
@[simp] theorem State.closeEffect_isOpen (s : State) : s.closeEffect.isOpen = false := rfl
@[simp] theorem State.closeEffect_ovr (s : State) : s.closeEffect.ovr = s.ovr := rfl
@[simp] theorem State.closeEffect_head (s : State) : s.closeEffect.head = s.head := rfl
@[simp] theorem State.closeEffect_tail (s : State) : s.closeEffect.tail = s.tail := rfl
@[simp] theorem State.closeEffect_buf (s : State) : s.closeEffect.buf = s.buf := rfl
@[simp] theorem State.closeEffect_maxMisses (s : State) : s.closeEffect.maxMisses = s.maxMisses := rfl
@[simp] theorem State.closeEffect_miss (s : State) : s.closeEffect.miss = s.miss := rfl
@[simp] theorem State.closeEffect_session (s : State) : s.closeEffect.session = none := rfl
@[simp] theorem State.closeEffect_phase (s : State) : s.closeEffect.phase = s.phase := rfl
@[simp] theorem State.closeEffect_ret (s : State) : s.closeEffect.ret = s.ret := rfl
@[simp] theorem State.closeEffect_txb (s : State) : s.closeEffect.txb = s.txb := rfl
@[simp] theorem State.closeEffect_arg (s : State) : s.closeEffect.arg = s.arg := rfl
@[simp] theorem State.closeEffect_bi (s : State) : s.closeEffect.bi = s.bi := rfl
@[simp] theorem State.closeEffect_out (s : State) : s.closeEffect.out = s.out := rfl
@[simp] theorem State.closeEffect_rst (s : State) : s.closeEffect.rst = s.rst := rfl
@[simp] theorem State.closeEffect_requests (s : State) : s.closeEffect.requests = s.requests := rfl
@[simp] theorem State.closeEffect_delivered (s : State) : s.closeEffect.delivered = s.delivered := rfl
@[simp] theorem State.closeEffect_answers (s : State) : s.closeEffect.answers = s.answers := rfl
@[simp] theorem State.closeEffect_wire (s : State) : s.closeEffect.wire = s.wire := rfl
@[simp] theorem State.closeEffect_handles (s : State) : s.closeEffect.handles = s.handles := rfl
@[simp] theorem State.closeEffect_handleOps (s : State) : s.closeEffect.handleOps = s.handleOps := rfl

/-! ## `applyReset` -/

@[simp] theorem State.applyReset_cfg (s : State) : s.applyReset.cfg = s.cfg := rfl
@[simp] theorem State.applyReset_isOpen (s : State) : s.applyReset.isOpen = State.reset.isOpen := rfl
@[simp] theorem State.applyReset_ovr (s : State) : s.applyReset.ovr = State.reset.ovr := rfl
@[simp] theorem State.applyReset_head (s : State) : s.applyReset.head = State.reset.head := rfl
@[simp] theorem State.applyReset_tail (s : State) : s.applyReset.tail = State.reset.tail := rfl
@[simp] theorem State.applyReset_buf (s : State) : s.applyReset.buf = State.reset.buf := rfl
@[simp] theorem State.applyReset_maxMisses (s : State) : s.applyReset.maxMisses = State.reset.maxMisses := rfl
@[simp] theorem State.applyReset_miss (s : State) : s.applyReset.miss = State.reset.miss := rfl
@[simp] theorem State.applyReset_session (s : State) : s.applyReset.session = State.reset.session := rfl
@[simp] theorem State.applyReset_phase (s : State) : s.applyReset.phase = State.reset.phase := rfl
@[simp] theorem State.applyReset_ret (s : State) : s.applyReset.ret = State.reset.ret := rfl
@[simp] theorem State.applyReset_txb (s : State) : s.applyReset.txb = State.reset.txb := rfl
@[simp] theorem State.applyReset_arg (s : State) : s.applyReset.arg = State.reset.arg := rfl
@[simp] theorem State.applyReset_bi (s : State) : s.applyReset.bi = State.reset.bi := rfl
@[simp] theorem State.applyReset_out (s : State) : s.applyReset.out = State.reset.out := rfl
@[simp] theorem State.applyReset_rst (s : State) : s.applyReset.rst = State.reset.rst := rfl
@[simp] theorem State.applyReset_requests (s : State) : s.applyReset.requests = s.requests := rfl
@[simp] theorem State.applyReset_delivered (s : State) : s.applyReset.delivered = s.delivered := rfl
@[simp] theorem State.applyReset_answers (s : State) : s.applyReset.answers = s.answers := rfl
@[simp] theorem State.applyReset_wire (s : State) : s.applyReset.wire = s.wire := rfl
@[simp] theorem State.applyReset_handles (s : State) : s.applyReset.handles = s.handles := rfl
@[simp] theorem State.applyReset_handleOps (s : State) : s.applyReset.handleOps = s.handleOps := rfl

end Sys2Proof.Machine
end

