-- ==== Sys2Proof/Laws/Ops.lean ====
section
/-! SUPPORT. What each shared operation can do, said once. -/

namespace Sys2Proof.Machine

/-- `push` overruns on a full ring and stores otherwise. -/
theorem push_cases (s : State) (b : Byte) :
    (s.full = true ∧ s.push b = (some .overrun, { s with ovr := true })) ∨
      (s.full = false ∧ s.push b = (none, s.store b)) := by
  unfold State.push
  cases h : s.full <;> simp

/-- `pop` gives nothing on an empty ring and the byte at `tail` otherwise. -/
theorem pop_cases (s : State) :
    (s.head = s.tail ∧ s.pop = (none, s)) ∨
      (s.head ≠ s.tail ∧ s.pop = (some (s.memRead s.tailSlot), { s with tail := s.advance s.tail })) := by
  unfold State.pop State.empty
  by_cases h : s.head = s.tail <;> simp [h]

/-- `capture` misses, hits or overruns. -/
theorem capture_cases (s : State) (r : Word) :
    (s.replyR r = false ∧ s.capture r = (.miss, s)) ∨
      (s.replyR r = true ∧ s.full = true ∧ s.capture r = (.raised .overrun, { s with ovr := true })) ∨
      (s.replyR r = true ∧ s.full = false ∧ s.capture r = (.hit, s.store (decodeDataByte r))) := by
  unfold State.capture
  cases hr : s.replyR r with
  | false => simp
  | true =>
    rcases push_cases s (decodeDataByte r) with ⟨hf, h⟩ | ⟨hf, h⟩ <;> simp [h, hf]

/-- The gate, by `open` and `ovr`. -/
theorem gate_cases (s : State) :
    (s.isOpen = false ∧ s.gate = some .notOpen) ∨
      (s.isOpen = true ∧ s.ovr = true ∧ s.gate = some .overrun) ∨
      (s.isOpen = true ∧ s.ovr = false ∧ s.gate = none) := by
  unfold State.gate
  cases s.isOpen <;> cases s.ovr <;> simp

/-- A request in IDLE is latched and served; in another phase nothing happens. -/
theorem accept_cases (s : State) (i : Instr) (serve : State → State) :
    (s.phase = .idle ∧ s.accept i serve = serve { s with arg := i }) ∨
      (s.phase ≠ .idle ∧ s.accept i serve = s) := by
  unfold State.accept
  by_cases h : s.phase = .idle <;> simp [h]

/-- An answer is `fail` only where `XCHG_CAN_FAIL`. -/
theorem answer_fail (s : State) (w : Word) (h : s.answer w = .fail) : s.cfg.xchgCanFail = true := by
  unfold State.answer at h
  split at h
  · cases h
  · by_contra hc
    simp [hc] at h

/-- A scripted word is the answer. -/
theorem answer_scripted (s : State) (w r : Word) (rest : List Answer) (h : s.answers = .word r :: rest) :
    s.answer w = .word r := by
  simp [State.answer, h]

/-- `len` in natural numbers, for indices inside the ring. -/
theorem len_eq (s : State) (hh : s.head < s.cfg.capacity) (ht : s.tail < s.cfg.capacity) :
    s.len = if s.tail ≤ s.head then s.head - s.tail else s.head + s.cfg.capacity - s.tail := by
  unfold State.len
  split
  · rw [Int.emod_eq_of_lt] <;> omega
  · have h : ((s.head : Int) - s.tail) % s.cfg.capacity = (s.head : Int) - s.tail + s.cfg.capacity := by
      rw [← Int.add_emod_right, Int.emod_eq_of_lt] <;> omega
    rw [h]
    omega

/-- An index below `C` advances to the next, or wraps to 0. -/
theorem advance_eq (s : State) (i : Nat) (h : i < s.cfg.capacity) :
    s.advance i = if i + 1 = s.cfg.capacity then 0 else i + 1 := by
  unfold State.advance
  split
  · simp [*]
  · exact Nat.mod_eq_of_lt (by omega)

end Sys2Proof.Machine
end

