-- ==== Sys2Proof/Laws/PerInstr.lean ====
section
/-! SUPPORT. Facts about every row as syntax, one lemma per constructor of `Instr`. -/

namespace Sys2Proof.Laws

open Sys2Proof.Machine

/-- How many bytes an instruction takes on its port. -/
def encodedSize (cfg : Config) : Instr → Nat
  | .readData => 2
  | .readConf => 2
  | .writeData _ => 2
  | .writeConf _ => 2
  | .reply _ => 2
  | .openSession _ _ => 2 + operandBytes cfg.missW
  | .closeSession => 1
  | .putByte _ => 2
  | .getByte => 1
  | .available => 1
  | .clear => 1
  | .write bytes => 5 + bytes.length
  | .read _ => 1 + operandBytes cfg.lenW
  | .hopUnassigned _ => 1

/-- `k` bytes of a number are `k` bytes. -/
theorem bytesOfNat_length (k n : Nat) : (bytesOfNat k n).length = k := by
  induction k generalizing n with
  | zero => rfl
  | succ k ih => simp [bytesOfNat, ih]

/-- The encoding of an instruction has the length of its layout. -/
def EncodedLength.Statement (i : Instr) : Prop := ∀ cfg : Config, (encode cfg i).length = encodedSize cfg i

theorem EncodedLength.readData : EncodedLength.Statement .readData := fun _ => rfl
theorem EncodedLength.readConf : EncodedLength.Statement .readConf := fun _ => rfl
theorem EncodedLength.writeData (d : Byte) : EncodedLength.Statement (.writeData d) := fun _ => rfl
theorem EncodedLength.writeConf (baud : BitVec 4) : EncodedLength.Statement (.writeConf baud) := fun _ => rfl
theorem EncodedLength.reply (r : Word) : EncodedLength.Statement (.reply r) := fun _ => rfl
theorem EncodedLength.openSession (baud : BitVec 4) (mm : Nat) : EncodedLength.Statement (.openSession baud mm) := by
  intro cfg
  simp [encode, commandWord, selectCode, encodeOperands, bytesOfNat_length, encodedSize]
  omega
theorem EncodedLength.closeSession : EncodedLength.Statement .closeSession := fun _ => rfl
theorem EncodedLength.putByte (b : Byte) : EncodedLength.Statement (.putByte b) := fun _ => rfl
theorem EncodedLength.getByte : EncodedLength.Statement .getByte := fun _ => rfl
theorem EncodedLength.available : EncodedLength.Statement .available := fun _ => rfl
theorem EncodedLength.clear : EncodedLength.Statement .clear := fun _ => rfl
theorem EncodedLength.write (bytes : List Byte) : EncodedLength.Statement (.write bytes) := by
  intro cfg
  simp [encode, commandWord, selectCode, encodeOperands, bytesOfNat_length, encodedSize]
  omega
theorem EncodedLength.read (length : Int) : EncodedLength.Statement (.read length) := by
  intro cfg
  simp [encode, commandWord, selectCode, encodeOperands, bytesOfNat_length, encodedSize]
  omega
theorem EncodedLength.hopUnassigned (low : BitVec 3) : EncodedLength.Statement (.hopUnassigned low) := fun _ => rfl

end Sys2Proof.Laws
end

