-- ==== Sys2Proof/Laws/Sequencer.lean ====
section
/-! SUPPORT. What each phase does with a reply, and what a step can be, said once. -/

namespace Sys2Proof.Machine

/-- `finishPut` goes on with the next byte of a `write` or completes. -/
theorem finishPut_cases (s : State) :
    (∃ bytes, s.arg = .write bytes ∧ s.bi + 1 < bytes.length ∧
        s.finishPut = { s with bi := s.bi + 1, txb := byteAt bytes (s.bi + 1), phase := .poll }) ∨
      ((∀ bytes, s.arg = .write bytes → bytes.length ≤ s.bi + 1) ∧ s.finishPut = s.done .ok) := by
  unfold State.finishPut
  cases h : s.arg <;> simp [argBytes]
  rename_i bytes
  by_cases hb : s.bi + 1 < bytes.length
  · simp [hb]
  · simp [hb, Nat.le_of_not_lt hb]

/-- A Drain Loop reply overruns, hits or misses. -/
theorem onReplyDrain_cases (s : State) (r : Word) :
    (s.replyR r = true ∧ s.full = true ∧ s.onReplyDrain r = { s with ovr := true }.fail .overrun) ∨
      (s.replyR r = true ∧ s.full = false ∧ s.onReplyDrain r = { s.store (decodeDataByte r) with miss := 0 }) ∨
      (s.replyR r = false ∧ s.onReplyDrain r = { s with miss := s.miss + 1 }) := by
  unfold State.onReplyDrain
  rcases capture_cases s r with ⟨h, hc⟩ | ⟨h, hf, hc⟩ | ⟨h, hf, hc⟩ <;> simp [*]

/-- The reply to the single drain step of the wait loop. -/
theorem onReplyStep_cases (s : State) (r : Word) :
    (s.replyR r = true ∧ s.full = true ∧ s.onReplyStep r = { s with ovr := true }.fail .overrun) ∨
      (s.replyR r = true ∧ s.full = false ∧
        s.onReplyStep r = { s.store (decodeDataByte r) with phase := .poll }) ∨
      (s.replyR r = false ∧ s.onReplyStep r = { s with phase := .poll }) := by
  unfold State.onReplyStep
  rcases capture_cases s r with ⟨h, hc⟩ | ⟨h, hf, hc⟩ | ⟨h, hf, hc⟩ <;> simp [*]

/-- The reply to a transmission. -/
theorem onReplySend_cases (s : State) (r : Word) :
    (s.replyR r = true ∧ s.full = true ∧ s.onReplySend r = { s with ovr := true }.fail .overrun) ∨
      (s.replyR r = true ∧ s.full = false ∧ s.onReplySend r = (s.store (decodeDataByte r)).startDrain .put) ∨
      (s.replyR r = false ∧ s.onReplySend r = s.finishPut) := by
  unfold State.onReplySend
  rcases capture_cases s r with ⟨h, hc⟩ | ⟨h, hf, hc⟩ | ⟨h, hf, hc⟩ <;> simp [*]

/-- An exchange is answered with a word or fails. -/
theorem exchange_cases (s : State) (w : Word) :
    (∃ r, s.answer w = .word r ∧ s.exchange w = (s.exchanged w (.word r)).onReply r) ∨
      (s.answer w = .fail ∧ s.exchange w = (s.exchanged w .fail).fail .ioError) := by
  unfold State.exchange
  cases h : s.answer w <;> simp [State.onAnswer]

/-- A step is a reset, a request in IDLE, the command of the phase, or an internal step. -/
theorem step_cases (s : State) :
    (s.rst = true ∧ step s = .next s.applyReset) ∨
      (s.rst = false ∧ s.phase = .idle ∧ s.requests = [] ∧ step s = .next s) ∨
      (∃ i rest, s.rst = false ∧ s.phase = .idle ∧ s.requests = i :: rest ∧
        step s = exec i { s with requests := rest }) ∨
      (∃ i, s.rst = false ∧ s.phase ≠ .idle ∧ s.nextCommand = some i ∧ step s = exec i s) ∨
      (s.rst = false ∧ s.phase = .drain ∧ s.nextCommand = none ∧ step s = .next s.finishDrain) := by
  cases hr : s.rst with
  | true => simp [step, hr]
  | false =>
    cases hp : s.phase with
    | idle =>
      cases hq : s.requests with
      | nil => simp [step, hr, State.fetch, hp, hq, State.internal]
      | cons i rest => simp [step, hr, State.fetch, hp, hq]
    | drain =>
      cases hc : s.nextCommand with
      | none => simp [step, hr, State.fetch, hp, hc, State.internal]
      | some i => simp [step, hr, State.fetch, hp, hc]
    | cfg => simp [step, hr, State.fetch, hp, State.nextCommand]
    | poll => simp [step, hr, State.fetch, hp, State.nextCommand]
    | step => simp [step, hr, State.fetch, hp, State.nextCommand]
    | send => simp [step, hr, State.fetch, hp, State.nextCommand]

end Sys2Proof.Machine
end

