-- ==== Sys2Proof/Machine/Text.lean ====
section
/-! DEFINITION. The textual form of operations and exchanges (30_encoding R64): `name operands`, and `> sent < received`.
It is how the spec's programs are written; no step reads it (log 28). -/

namespace Sys2Proof.Machine

/-- The hexadecimal digit of a number below 16. -/
def hexDigit (n : Nat) : Char := "0123456789ABCDEF".toList.getD n '0'

/-- `digits` hexadecimal digits of `n` after `0x`. -/
def hexText (digits n : Nat) : String :=
  "0x" ++ String.ofList ((List.range digits).map fun k => hexDigit (n / 16 ^ (digits - 1 - k) % 16))

/-- A byte sequence in brackets. -/
def bytesText (xs : List Byte) : String := "[" ++ ", ".intercalate (xs.map fun b => hexText 2 b.toNat) ++ "]"

/-- An instruction as the spec writes it: a host operation by its name, a word of the link by its row's mnemonic. -/
def instrText : Instr → String
  | .readData => "READ_DATA"
  | .readConf => "READ_CONF"
  | .writeData d => "WRITE_DATA " ++ hexText 2 d.toNat
  | .writeConf baud => "WRITE_CONF " ++ hexText 1 baud.toNat
  | .reply r => "REPLY " ++ hexText 4 r.toNat
  | .openSession baud mm => "open baud=" ++ hexText 1 baud.toNat ++ ", maxMisses=" ++ toString mm
  | .closeSession => "close"
  | .putByte b => "putByte " ++ hexText 2 b.toNat
  | .getByte => "getByte"
  | .available => "available"
  | .clear => "clear"
  | .write bytes => "write " ++ bytesText bytes
  | .read len => "read " ++ toString len
  | .hopUnassigned low => "request with op=" ++ hexText 1 (8 + low.toNat)

/-- An exchange as the spec writes it. -/
def exchangeText (x : Exchange) : String :=
  match x.got with
  | .word r => "> " ++ hexText 4 x.sent.toNat ++ " < " ++ hexText 4 r.toNat
  | .fail => "> " ++ hexText 4 x.sent.toNat ++ " < fail"

end Sys2Proof.Machine
end

