-- ==== Sys2Proof/Tests/Slice0.lean ====
section
/-! SUPPORT. The model's own tests. Expected values come from spec/95_test_vectors.md (V-..., S..., P...), from the trace
of 46_sequencer section 7, or from the encodings of 30_encoding written out bit by bit. The theorems `witness_...` show
a state and operands that meet the hypotheses of each statement. -/

namespace Sys2Proof.Tests

open Sys2Proof Sys2Proof.Machine

/-! ## Helpers -/

/-- The parameters of most vectors: `C = 4`, and `MAX_WRITE = 3` so that a length over it is short to write. -/
def small : Config := { Config.standard with capacity := 4, maxWrite := 3 }

/-- A closed block with these requests and answers to come. -/
def closed (requests : List Instr) (answers : List Answer) : State :=
  { State.reset with cfg := small, requests := requests, answers := answers, handles := [true, true, true] }

/-- An open session with `maxMisses = 2`. -/
def opened (requests : List Instr) (answers : List Answer) : State :=
  { closed requests answers with isOpen := true, maxMisses := 2 }

/-- An open session holding `A0 A1` in slots 3 and 0: `head = 1`, `tail = 3` (as in V-RB6). -/
def holding (requests : List Instr) (answers : List Answer) : State :=
  { opened requests answers with head := 1, tail := 3, buf := [(0, 0xA1), (3, 0xA0)] }

/-- A full ring: `11 22 33 --` (V-RB2). -/
def filled (requests : List Instr) (answers : List Answer) : State :=
  { opened requests answers with head := 3, buf := [(0, 0x11), (1, 0x22), (2, 0x33)] }

/-- The middle of an operation. -/
def busy (s : State) (phase : Phase) (arg : Instr) : State := { s with phase := phase, arg := arg }

/-- A byte of a `putByte` in the given phase of its wait loop. -/
def putting (s : State) (phase : Phase) (b : Byte) : State := { s with phase := phase, arg := .putByte b, txb := b }

/-- The end of a Drain Loop for an operation. -/
def drained (s : State) (ret : Ret) (arg : Instr) : State :=
  { s with phase := .drain, ret := ret, arg := arg, miss := 2, txb := 0x01 }

/-- The state after one step, if there is one. -/
def after (s : State) : Option State :=
  match step s with
  | .next t => some t
  | .fault _ => none
  | .refused _ => none

/-- The state after `n` steps has the property, if there is one. -/
def afterRun (n : Nat) (s : State) (p : State → Bool) : Bool :=
  match Host.Core.run core n s with
  | .next t => p t
  | .fault _ => false
  | .refused _ => false

theorem reaches_of_afterRun {n : Nat} {s : State} {p : State → Bool} (h : afterRun n s p = true) :
    ∃ t : State, Reaches n s t ∧ p t = true := by
  unfold afterRun at h
  split at h
  · exact ⟨_, by assumption, h⟩
  · cases h
  · cases h

/-- A procedure returned the value, in a state with the property. -/
def returned {α : Type} [DecidableEq α] (x : Run α) (v : α) (p : State → Bool) : Bool :=
  match x with
  | .ret a t => decide (a = v) && p t
  | .raised _ _ => false
  | .running _ => false

theorem ret_of_returned {α : Type} [DecidableEq α] {x : Run α} {v : α} {p : State → Bool}
    (h : returned x v p = true) : ∃ t, x = .ret v t ∧ p t = true := by
  cases x with
  | ret a t => simp only [returned, Bool.and_eq_true, decide_eq_true_eq] at h; exact ⟨t, by rw [h.1], h.2⟩
  | raised e t => cases h
  | running t => cases h

/-- The refused terms of WellFormed and a row that passes. -/
theorem test_wf_misses_too_wide :
    (Instr.openSession 0 (2 ^ 32)).formError .standard = some .missesTooWide ∧
      (Instr.openSession 0 (2 ^ 32 - 1)).formError .standard = none := by decide

theorem test_wf_length_out_of_range :
    (Instr.read (2 ^ 31)).formError .standard = some .lengthOutOfRange ∧
      (Instr.read (-(2 ^ 31) - 1)).formError .standard = some .lengthOutOfRange ∧
      (Instr.read (-(2 ^ 31))).formError .standard = none := by decide

theorem test_wf_write_too_long (bytes : List Byte) (h : 2 ^ 32 ≤ bytes.length) :
    (Instr.write bytes).formError .standard = some .writeTooLong := if_neg (Nat.not_lt.mpr h)

/-! ## Words, bit by bit from 30_encoding, and vectors V-CD1 to V-CD13 -/

theorem test_decode_command_words :
    decode .standard .cw [0b00000000, 0b00000000] = .ok (.readData, []) ∧
      decode .standard .cw [0b01000000, 0b00000000] = .ok (.readConf, []) ∧
      decode .standard .cw [0b10000000, 0b01000001] = .ok (.writeData 0x41, []) ∧
      decode .standard .cw [0b11000100, 0b00001010] = .ok (.writeConf 0xA, []) := by decide

theorem test_decode_reply_word : decode .standard .rw [0b10000000, 0b01000001] = .ok (.reply 0x8041, []) := by decide

theorem test_decode_session_requests :
    decode .standard .hop [0x00, 0x0A, 0x00, 0x00, 0x00, 0x02] = .ok (.openSession 0xA 2, []) ∧
      decode .standard .hop [0x01, 0x77] = .ok (.closeSession, [0x77]) ∧
      decode .standard .hop [0x0F] = .ok (.hopUnassigned 7, []) := by decide

theorem test_decode_byte_requests :
    decode .standard .hop [0x02, 0x55] = .ok (.putByte 0x55, []) ∧
      decode .standard .hop [0x03] = .ok (.getByte, []) ∧
      decode .standard .hop [0x04] = .ok (.available, []) ∧
      decode .standard .hop [0x05] = .ok (.clear, []) := by decide

theorem test_decode_block_requests :
    decode .standard .hop [0x06, 0x00, 0x00, 0x00, 0x02, 0x41, 0x42] = .ok (.write [0x41, 0x42], []) ∧
      decode .standard .hop [0x07, 0xFF, 0xFF, 0xFF, 0xFD] = .ok (.read (-3), []) := by decide

/-- R118: a `read` with no operand is `read 0`. -/
theorem test_decode_read_without_operand : decode .standard .hop [0x07] = .ok (.read 0, []) := by decide

/-- R65: the two high bits alone tell the command, also with a payload the block never sends (V-CD4a, V-CD4b). -/
theorem test_command_kind_by_tag :
    commandKind .standard 0x0001 = .readData ∧ commandKind .standard 0x7FFF = .readConf ∧
      commandKind .standard 0x8141 = .writeData ∧ commandKind .standard 0xC000 = .writeConf ∧
      commandKind .standard 0xFFFF = .writeConf := by decide

theorem test_decode_rejects_by_name :
    decode .standard .cw [0x00] = .error .truncated ∧
      decode .standard .cw [0x00, 0x01] = .error .unusedPayload ∧
      decode .standard .cw [0x81, 0x00] = .error .unusedPayload ∧
      decode .standard .cw [0xC0, 0x0A] = .error .unusedPayload ∧
      decode .standard .hop [0x10] = .error .highBitsSet ∧
      decode .standard .hop [0x00, 0x10, 0, 0, 0, 0] = .error .highBitsSet ∧
      decode { Config.standard with missW := 7 } .hop [0x00, 0x00, 0x80] = .error .operandTooWide := by decide

theorem test_encode_vectors :
    encodeWriteData .standard 0xFF = 0x80FF ∧ encodeWriteConfig .standard 0x3FFF = 0xFFFF ∧
      encodeWriteConfig .standard (openPayload .standard 0xA) = 0xC40A ∧ linkBytes 0xC40A = [0xC4, 0x0A] ∧
      wordOfLink 0x80 0x41 = 0x8041 := by decide

theorem test_decode_vectors :
    decodeReceiverHasData .standard 0x845A = true ∧ decodeTransmitterReady .standard 0x845A = false ∧
      decodeDataByte 0x845A = 0x5A ∧ decodeReceiverHasData .standard 0x3FFF = false ∧
      decodeTransmitterReady .standard 0x4000 = true ∧ decodeDataByte 0xC0FF = 0xFF := by decide

theorem test_link_sends_bit_15_first : (linkBits 0x8001).head? = some true ∧ (linkBits 0x4000).head? = some false := by
  decide

theorem test_index_width : Config.standard.idxW = 12 ∧ small.idxW = 2 := by decide

theorem test_text :
    instrText (.write [0x41, 0x42]) = "write [0x41, 0x42]" ∧
      exchangeText ⟨0x8055, .word 0x80B2⟩ = "> 0x8055 < 0x80B2" := by decide

/-! ## One step of each row -/

/-- V-SE1: `open` is latched, and sends `0xC400 | baud`. -/
theorem test_open_enters_cfg :
    (after (closed [.openSession 0xA 2] [])).map (fun t => (t.phase, t.nextCommand, t.isOpen)) =
      some (.cfg, some (.writeConf 0xA), false) := by decide

/-- V-SE3. -/
theorem test_open_on_open : (after (opened [.openSession 0 9] [])).map (fun t => (t.delivered, t.maxMisses, t.phase)) =
    some ([.error .alreadyOpen], 2, .idle) := by decide

/-- P1 operation 1. -/
theorem test_writeConf_opens :
    (after (busy (closed [] [.word 0x4000]) .cfg (.openSession 0xA 2))).map
        (fun t => (t.isOpen, t.maxMisses, t.wire, t.delivered)) =
      some (true, 2, [⟨0xC40A, .word 0x4000⟩], [.ok]) := by decide

/-- R6, R19: the session holds the bits-per-word and the bus speed of the block's parameters. -/
theorem test_session_parameters :
    (after { busy (closed [] [.word 0x4000]) .cfg (.openSession 0xA 2) with
        cfg := { small with bpw := 16, busSpeedHz := 1000000 } }).map
        (fun t => t.session.map fun x => (x.bpw, x.busSpeedHz)) = some (some (16, 1000000)) := by decide

/-- V-SE2. -/
theorem test_writeConf_fails :
    (after (busy (closed [] [.fail]) .cfg (.openSession 0xA 2))).map
        (fun t => (t.isOpen, t.maxMisses, t.wire, t.delivered)) =
      some (false, 0, [⟨0xC40A, .fail⟩], [.error .ioError]) := by decide

/-- V-SE4 and V-SE12. -/
theorem test_close :
    (after (closed [.closeSession] [])).map (fun t => t.delivered) = some [.ok] ∧
      (after (filled [.closeSession] [])).map (fun t => (t.isOpen, t.delivered, t.len)) =
        some (false, [.ok], 3) := by decide

/-- V-SE11. -/
theorem test_unassigned : (after (opened [.hopUnassigned 7] [])).map (fun t => (t.delivered, t.wire)) =
    some ([.error .validation], []) := by decide

/-- V-SE5, V-SE6: a closed block answers `NotOpen`, an empty `write` included. -/
theorem test_gate_closed :
    ([Instr.putByte 0, .getByte, .available, .clear, .write [0], .read 0, .write []].map
        fun i => (after (closed [i] [])).map fun t => (t.delivered, t.wire)) =
      List.replicate 7 (some ([Result.error .notOpen], [])) := by decide

/-- V-SE7, V-SE8: an open block with `ovr = 1` answers `Overrun`. -/
theorem test_gate_faulted :
    ([Instr.putByte 0, .getByte, .available, .clear, .write [0], .read 0, .write []].map
        fun i => (after { opened [i] [] with ovr := true }).map fun t => (t.delivered, t.wire)) =
      List.replicate 7 (some ([Result.error .overrun], [])) := by decide

/-- The first step of the trace of 46_sequencer section 7. -/
theorem test_putByte : (after (opened [.putByte 0x55] [])).map (fun t => (t.phase, t.txb)) = some (.poll, 0x55) := by
  decide

/-- The reply `0xC000` of the trace: drain first, though `T = 1`. -/
theorem test_readConf :
    (after (putting (opened [] [.word 0xC000]) .poll 0x55)).map (fun t => (t.phase, t.wire)) =
      some (.step, [⟨0x4000, .word 0xC000⟩]) := by decide

/-- V-BY1: `0x4000` leads to the transmission. -/
theorem test_readConf_ready : (after (putting (opened [] [.word 0x4000]) .poll 0x41)).map (fun t => t.phase) =
    some .send := by decide

/-- The reply `0xC0A1` of the trace. -/
theorem test_readData_step :
    (after (putting (opened [] [.word 0xC0A1]) .step 0x55)).map (fun t => (t.phase, t.buf, t.head, t.wire)) =
      some (.poll, [(0, 0xA1)], 1, [⟨0x0000, .word 0xC0A1⟩]) := by decide

/-- V-DR9: the reply that overruns. -/
theorem test_readData_overrun :
    (after { busy (filled [] [.word 0x8044]) .drain .available with ret := .avail }).map
        (fun t => (t.ovr, t.head, t.buf, t.delivered)) =
      some (true, 3, [(0, 0x11), (1, 0x22), (2, 0x33)], [.error .overrun]) := by decide

/-- The reply `0x80B2` of the trace. -/
theorem test_writeData_hit :
    (after (putting (opened [] [.word 0x80B2]) .send 0x55)).map (fun t => (t.phase, t.ret, t.buf, t.wire)) =
      some (.drain, .put, [(0, 0xB2)], [⟨0x8055, .word 0x80B2⟩]) := by decide

/-- V-BY8. -/
theorem test_writeData_fails :
    (after (putting (opened [] [.fail]) .send 0x10)).map (fun t => (t.delivered, t.isOpen, t.ovr)) =
      some ([.error .ioError], true, false) := by decide

/-- V-CD9's word as the reply of a status poll: `R = 1`, `T = 0`. -/
theorem test_reply_polled : exec (.reply 0x845A) (putting (opened [] []) .poll 0x55) =
    .next { putting (opened [] []) .step 0x55 with wire := [⟨0x4000, .word 0x845A⟩] } := by rfl

/-- V-DR2's word as a drain reply: a miss. -/
theorem test_reply_missed : exec (.reply 0x4041) { busy (opened [] []) .drain .getByte with ret := .get } =
    .next { busy (opened [] []) .drain .getByte with ret := .get, miss := 1, wire := [⟨0x0000, .word 0x4041⟩] } := by
  rfl

/-- V-BY5: the pop at the end of the Drain Loop of a `getByte`. -/
theorem test_getByte_ends :
    (after (drained (holding [] []) .get .getByte)).map (fun t => (t.delivered, t.tail)) =
      some ([.byte (some 0xA0)], 0) := by decide

theorem test_getByte : (after (opened [.getByte] [])).map (fun t => (t.phase, t.ret, t.miss)) =
    some (.drain, .get, 0) := by decide

/-- V-BY10 with the ring of V-RB2. -/
theorem test_available_ends : (after (drained (filled [] []) .avail .available)).map (fun t => t.delivered) =
    some [.count 3] := by decide

theorem test_available : (after (opened [.available] [])).map (fun t => (t.phase, t.ret)) = some (.drain, .avail) := by
  decide

/-- V-BY7. -/
theorem test_clear_ends : (after (drained (holding [] []) .clear .clear)).map (fun t => (t.delivered, t.head, t.tail)) =
    some ([.ok], 0, 0) := by decide

theorem test_clear : (after (opened [.clear] [])).map (fun t => (t.phase, t.ret)) = some (.drain, .clear) := by decide

/-- V-BL1, V-BL3. -/
theorem test_write_validates :
    (after (opened [.write []] [])).map (fun t => t.delivered) = some [.error .validation] ∧
      (after (opened [.write [1, 2, 3, 4]] [])).map (fun t => (t.delivered, t.wire)) =
        some ([.error .validation], []) := by decide

/-- V-BL4: after the first byte, the second. -/
theorem test_write_next_byte :
    (after { putting (opened [] [.word 0x4000]) .send 0x01 with arg := .write [1, 2, 3] }).map
        (fun t => (t.phase, t.txb, t.bi)) = some (.poll, 0x02, 1) := by decide

/-- V-BL10: the most negative length on an empty ring ends with no byte. -/
theorem test_read_ends :
    (after (drained (opened [] []) .get (.read (-2147483648)))).map (fun t => (t.delivered, t.phase)) =
      some ([.bytes []], .idle) := by decide

/-- V-BL8: a blocking `read` polls again after `none`. -/
theorem test_read_polls_again :
    (after (drained (opened [] []) .get (.read 2))).map (fun t => (t.delivered, t.phase, t.miss)) =
      some ([], .drain, 0) := by decide

/-- 70_reset R185. -/
theorem test_reset_input :
    (after { putting (filled [] []) .send 0x55 with rst := true }).map
        (fun t => (t.phase, t.isOpen, t.head, t.delivered)) = some (.idle, false, 0, []) := by decide

/-! ## Witnesses -/

/-- A tactic script for the invariant of a concrete state is one decision per field. -/
theorem inv_filled_idle : (filled [.getByte] [.word 0x4000, .word 0x0000]).Inv :=
  ⟨by decide, by decide, by decide, by decide, by decide, by decide, by decide, by decide⟩

theorem inv_holding_idle : (holding [.getByte] [.word 0x4000, .word 0x0000]).Inv :=
  ⟨by decide, by decide, by decide, by decide, by decide, by decide, by decide, by decide⟩

/-- A session whose next replies are a hit and two misses. -/
def openedQuiet : State := opened [] [.word 0x8011, .word 0x4000, .word 0x0000]

theorem inv_opened_idle : openedQuiet.Inv :=
  ⟨by decide, by decide, by decide, by decide, by decide, by decide, by decide, by decide⟩

theorem inv_sending : (putting (filled [] [.word 0x8044]) .send 0x55).Inv :=
  ⟨by decide, by decide, by decide, by decide, by decide, by decide, by decide, by decide⟩

theorem inv_configuring : { busy (closed [] [.fail]) .cfg (.openSession 0 0) with ovr := true }.Inv :=
  ⟨by decide, by decide, by decide, by decide, by decide, by decide, by decide, by decide⟩

theorem witness_DecodeReadsBackWhatEncodeWrites :
    Config.standard.WF ∧ (Instr.openSession 0xF (2 ^ 32 - 1)).WF .standard ∧ (Instr.read (-(2 ^ 31))).WF .standard := by
  decide

theorem witness_ReplyDecodingRecoversTheByte :
    (0x80FF : Word).getLsbD Config.standard.rBit = true ∧ (0x80FF : Word).extractLsb' 0 8 = (0xFF : Byte) ∧
      Config.standard.WF := by decide

theorem witness_StepRunsTheDecodedInstruction :
    ((opened [.getByte] []).rst = false ∧ (opened [.getByte] []).phase = .idle ∧
      (opened [.getByte] []).requests = [.getByte]) ∧
    (small.WF ∧ (putting (opened [] []) .send 0x55).nextCommand = some (.writeData 0x55)) ∧
    decodeTableWord 16 0x8041 = some (.writeData 0x41) ∧ decodeTableWord 8 0x05 = some .clear := by decide

theorem witness_IdleBlockWaitsForARequest :
    State.reset.rst = false ∧ State.reset.phase = .idle ∧ State.reset.requests = [] := by decide

theorem witness_PhaseMovesOnlyAlongTheTable :
    ∃ t, (opened [.clear] []).rst = false ∧ step (opened [.clear] []) = .next t := ⟨_, rfl, rfl⟩

theorem witness_StepMakesAtMostItsOneExchange :
    ∃ t, step (putting (opened [] [.word 0x80B2]) .send 0x55) = .next t ∧ t.wire = [⟨0x8055, .word 0x80B2⟩] :=
  ⟨_, rfl, by decide⟩

theorem witness_OpenOnAClosedBlockEntersCfg :
    (closed [] []).phase = .idle ∧ (closed [] []).isOpen = false ∧
      (Instr.openSession 0xF (2 ^ 32 - 1)).WF (closed [] []).cfg := by decide

theorem witness_OpenOnAnOpenSessionIsRefused :
    (opened [] []).phase = .idle ∧ (opened [] []).isOpen = true ∧
      (Instr.openSession 0 (2 ^ 32 - 1)).WF (opened [] []).cfg := by decide

theorem witness_WriteConfCompletesOpen :
    ∃ s : State, s.phase = .cfg ∧ s.arg = .openSession 0xF 0 ∧ commandWord s.cfg (.writeConf 0xF) = some 0xC40F ∧
      s.handleOk = true ∧ s.answer 0xC40F = .word 0xFFFF :=
  ⟨busy (closed [] [.word 0xFFFF]) .cfg (.openSession 0xF 0), by decide⟩

theorem witness_WriteConfCompletesOpen_fail :
    ∃ s : State, s.phase = .cfg ∧ s.arg = .openSession 0 0 ∧ commandWord s.cfg (.writeConf 0) = some 0xC400 ∧
      s.handleOk = true ∧ s.answer 0xC400 = .fail :=
  ⟨busy (closed [] [.fail]) .cfg (.openSession 0 0), by decide⟩

theorem witness_WriteConfCompletesOpen_handle :
    ∃ s : State, s.phase = .cfg ∧ s.arg = .openSession 0 0 ∧ commandWord s.cfg (.writeConf 0) = some 0xC400 ∧
      s.handleOk = false :=
  ⟨{ busy (closed [] []) .cfg (.openSession 0 0) with handles := [false] }, by decide⟩

theorem witness_CloseAlwaysLeavesTheBlockClosed :
    ((closed [] []).phase = .idle ∧ (closed [] []).isOpen = false) ∧
    ((opened [] []).phase = .idle ∧ (opened [] []).isOpen = true ∧ (opened [] []).handleOk = true) ∧
    { opened [] [] with handles := [false] }.handleOk = false := by decide

theorem witness_UnassignedCodesAreRefused :
    decodeOperands .standard 0x8 [] = .ok (.hopUnassigned 0, []) ∧ 8 ≤ (0x8 : BitVec 4).toNat ∧
      decodeOperands .standard 0x7 [0, 0, 0, 0] = .ok (.read 0, []) ∧ ¬8 ≤ (0x7 : BitVec 4).toNat ∧
      (opened [] []).phase = .idle := by decide

theorem witness_GateRefusesClosedThenFaulted :
    ((closed [] []).phase = .idle ∧ (closed [] []).cfg.WF ∧ (Instr.write []).WF (closed [] []).cfg ∧
      (closed [] []).isOpen = false) ∧
    { opened [] [] with ovr := true }.phase = .idle ∧ { opened [] [] with ovr := true }.isOpen = true ∧
      (Instr.read (2 ^ 31 - 1)).WF small := by decide

theorem witness_RequestDuringAnOperationHasNoEffect :
    (putting (opened [] []) .poll 0x55).phase ≠ .idle ∧ Instr.closeSession.format = .hop := by decide

theorem witness_PutByteEntersTheWaitLoop :
    (opened [] []).phase = .idle ∧ (opened [] []).isOpen = true ∧ (opened [] []).ovr = false := by decide

theorem witness_ReadingOperationsEnterADrainLoop :
    (opened [] []).phase = .idle ∧ (opened [] []).isOpen = true ∧ (opened [] []).ovr = false ∧
      (opened [] []).cfg.WF ∧ (Instr.read (-(2 ^ 31))).WF (opened [] []).cfg := by decide

/-- Lengths 0, 1, `MAX_WRITE` and `MAX_WRITE + 1`. -/
theorem witness_WriteValidatesItsLengthThenSends :
    (opened [] []).phase = .idle ∧ (opened [] []).isOpen = true ∧ (opened [] []).ovr = false ∧
      [(1 : Byte), 2, 3].length ≤ (opened [] []).cfg.maxWrite ∧ [(1 : Byte)].length ≤ (opened [] []).cfg.maxWrite ∧
      (opened [] []).cfg.maxWrite < [(1 : Byte), 2, 3, 4].length := by decide

theorem witness_ReadConfPollsReceiverBeforeTransmitter :
    ((putting (opened [] [.word 0xC000]) .poll 0).phase = .poll ∧
      (putting (opened [] [.word 0xC000]) .poll 0).answer (encodeReadConfig small) = .word 0xC000) ∧
    (putting (opened [] [.fail]) .poll 0).answer (encodeReadConfig small) = .fail := by decide

/-- The last free slot, and the full ring; a hit and a miss. -/
theorem witness_ReadDataDrainsOneReply :
    ∃ s u : State, (s.phase = .drain ∧ s.miss < s.maxMisses ∧ s.head < s.cfg.capacity ∧
        s.answer (encodeReadData s.cfg) = .word 0x8044 ∧ (s.head + 1) % s.cfg.capacity ≠ s.tail) ∧
      u.phase = .drain ∧ u.miss < u.maxMisses ∧ u.head < u.cfg.capacity ∧
      u.answer (encodeReadData u.cfg) = .word 0x8044 ∧ (u.head + 1) % u.cfg.capacity = u.tail ∧
      (0x8044 : Word).getLsbD u.cfg.rBit = true ∧ (0x4000 : Word).getLsbD u.cfg.rBit = false :=
  ⟨{ busy (holding [] [.word 0x8044]) .drain .clear with miss := 1, ret := .clear },
    { busy (filled [] [.word 0x8044]) .drain .clear with miss := 1, ret := .clear }, by decide⟩

theorem witness_ReadDataInTheWaitLoopStoresAndPolls :
    ∃ s u v : State, (s.phase = .step ∧ s.head < s.cfg.capacity ∧
        s.answer (encodeReadData s.cfg) = .word 0x8044 ∧ (s.head + 1) % s.cfg.capacity ≠ s.tail) ∧
      (u.phase = .step ∧ u.head < u.cfg.capacity ∧
        u.answer (encodeReadData u.cfg) = .word 0x8044 ∧ (u.head + 1) % u.cfg.capacity = u.tail) ∧
      v.phase = .step ∧ v.head < v.cfg.capacity ∧ v.answer (encodeReadData v.cfg) = .fail :=
  ⟨putting (holding [] [.word 0x8044]) .step 0, putting (filled [] [.word 0x8044]) .step 0,
    putting (filled [] [.fail]) .step 0, by decide⟩

theorem witness_WriteDataTransmitsTheByte :
    ∃ s u v : State, (s.phase = .send ∧ s.head < s.cfg.capacity ∧
        s.answer (encodeWriteData s.cfg s.txb) = .word 0x8044 ∧ (s.head + 1) % s.cfg.capacity ≠ s.tail) ∧
      (u.phase = .send ∧ u.answer (encodeWriteData u.cfg u.txb) = .word 0x8044 ∧
        (u.head + 1) % u.cfg.capacity = u.tail) ∧
      v.phase = .send ∧ v.answer (encodeWriteData v.cfg v.txb) = .fail :=
  ⟨putting (holding [] [.word 0x8044]) .send 1, putting (filled [] [.word 0x8044]) .send 1,
    putting (filled [] [.fail]) .send 1, by decide⟩

/-- The clauses on `R = 0`: a `putByte`, a `write` with a byte left, and the last byte of a `write`. -/
theorem witness_WriteDataTransmitsTheByte_miss :
    ∃ s u v : State, (s.phase = .send ∧ s.head < s.cfg.capacity ∧ s.arg = .putByte 1 ∧
        s.answer (encodeWriteData s.cfg s.txb) = .word 0x7FFF ∧ (0x7FFF : Word).getLsbD s.cfg.rBit = false) ∧
      (u.phase = .send ∧ u.head < u.cfg.capacity ∧ u.arg = .write [1, 2] ∧ [(1 : Byte), 2][u.bi + 1]? = some 2 ∧
        u.answer (encodeWriteData u.cfg u.txb) = .word 0x7FFF ∧ (0x7FFF : Word).getLsbD u.cfg.rBit = false) ∧
      v.phase = .send ∧ v.head < v.cfg.capacity ∧ v.arg = .write [2, 1] ∧ [(2 : Byte), 1].length ≤ v.bi + 1 ∧
      v.answer (encodeWriteData v.cfg v.txb) = .word 0x7FFF ∧ (0x7FFF : Word).getLsbD v.cfg.rBit = false :=
  ⟨putting (holding [] [.word 0x7FFF]) .send 1,
    { putting (holding [] [.word 0x7FFF]) .send 1 with arg := .write [1, 2] },
    { putting (holding [] [.word 0x7FFF]) .send 1 with arg := .write [2, 1], bi := 1 }, by decide⟩

theorem witness_ReplyHasTheEffectOfItsExchange :
    ∃ s : State, s.nextCommand = some (.writeConf 0) ∧ commandWord s.cfg (.writeConf 0) = some 0xC400 ∧
      s.answer 0xC400 = .word 0x4000 ∧ s.phase = .cfg ∧ s.handleOk = true :=
  ⟨busy (closed [] [.word 0x4000]) .cfg (.openSession 0 2), by decide⟩

theorem witness_FailedExchangeEndsWithIoError :
    ∃ s u : State, (s.nextCommand = some .readData ∧ commandWord s.cfg .readData = some 0x0000 ∧
        s.answer 0x0000 = .fail ∧ s.phase ≠ .cfg) ∧
      u.nextCommand = some (.writeConf 0xF) ∧ commandWord u.cfg (.writeConf 0xF) = some 0xC40F ∧
      u.answer 0xC40F = .fail ∧ u.phase = .cfg ∧ u.handleOk = true :=
  ⟨putting (opened [] [.fail]) .step 0, busy (closed [] [.fail]) .cfg (.openSession 0xF 2), by decide⟩

theorem witness_UnusedReplyBitsChangeNothing :
    ∃ t t', exec (.reply 0x8041) (putting (opened [] []) .step 0) = .next t ∧
      exec (.reply 0xBF41) (putting (opened [] []) .step 0) = .next t' ∧
      (0x8041 : Word).getLsbD small.rBit = (0xBF41 : Word).getLsbD small.rBit ∧
      (0x8041 : Word).getLsbD small.tBit = (0xBF41 : Word).getLsbD small.tBit ∧
      (0x8041 : Word).extractLsb' 0 8 = (0xBF41 : Word).extractLsb' 0 8 :=
  ⟨_, _, rfl, rfl, by decide⟩

theorem witness_DrainLoopEndsByWhatItServes :
    ∃ s : State, s.rst = false ∧ s.phase = .drain ∧ s.maxMisses ≤ s.miss ∧ s.ret = .put ∧ s.arg = .write [1, 2] ∧
      [(1 : Byte), 2][s.bi + 1]? = some 2 :=
  ⟨drained (holding [] []) .put (.write [1, 2]), by decide⟩

theorem witness_DrainLoopEndsByWhatItServes_others :
    (drained (holding [] []) .avail .available).ret = .avail ∧ (drained (holding [] []) .clear .clear).ret = .clear ∧
      (drained (holding [] []) .get .getByte).arg = .getByte ∧
      (drained (holding [] []) .avail .available).maxMisses ≤ (drained (holding [] []) .avail .available).miss := by
  decide

/-- The hypotheses that the clauses on a `read` share. -/
def readEnding (s : State) (len : Int) : Bool :=
  decide (s.rst = false ∧ s.phase = .drain ∧ s.maxMisses ≤ s.miss ∧ s.ret = .get ∧ s.arg = .read len)

/-- The clause that ends a `read`: length 1 with a byte, 0 and -1 with none, -1 with a byte. -/
theorem witness_ReadContinuesByItsLength_ends :
    let s := drained (holding [] [])
    let e := drained (opened [] [])
    (readEnding (s .get (.read 1)) 1 = true ∧
      (((s .get (.read 1)).out ++ (s .get (.read 1)).pop.1.toList).length : Int) = 1) ∧
    (readEnding (e .get (.read 0)) 0 = true ∧ (e .get (.read 0)).pop.1 = none) ∧
    (readEnding (e .get (.read (-1))) (-1) = true ∧ (e .get (.read (-1))).pop.1 = none) ∧
    readEnding (s .get (.read (-1))) (-1) = true ∧ (s .get (.read (-1))).pop.1 ≠ none ∧
      (((s .get (.read (-1))).out ++ (s .get (.read (-1))).pop.1.toList).length : Int) = - -1 := by decide

/-- The clause that goes on: length 2 with a byte, 1 with none, 0 with a byte, -2 with a byte. -/
theorem witness_ReadContinuesByItsLength_continues :
    let s := drained (holding [] [])
    let e := drained (opened [] [])
    (readEnding (s .get (.read 2)) 2 = true ∧
      (((s .get (.read 2)).out ++ (s .get (.read 2)).pop.1.toList).length : Int) ≠ 2) ∧
    (readEnding (e .get (.read 1)) 1 = true ∧
      (((e .get (.read 1)).out ++ (e .get (.read 1)).pop.1.toList).length : Int) ≠ 1) ∧
    (readEnding (s .get (.read 0)) 0 = true ∧ (s .get (.read 0)).pop.1 ≠ none) ∧
    readEnding (s .get (.read (-2))) (-2) = true ∧ (s .get (.read (-2))).pop.1 ≠ none ∧
      (((s .get (.read (-2))).out ++ (s .get (.read (-2))).pop.1.toList).length : Int) ≠ - -2 := by decide

theorem witness_PushStoresAtHeadOrOverruns :
    ((holding [] []).head < (holding [] []).cfg.capacity ∧
      ((holding [] []).head + 1) % (holding [] []).cfg.capacity ≠ (holding [] []).tail) ∧
    (filled [] []).head < (filled [] []).cfg.capacity ∧
      ((filled [] []).head + 1) % (filled [] []).cfg.capacity = (filled [] []).tail := by decide

theorem witness_PopTakesTheByteAtTail :
    ((opened [] []).tail < (opened [] []).cfg.capacity ∧ (opened [] []).head = (opened [] []).tail) ∧
    (holding [] []).tail < (holding [] []).cfg.capacity ∧ (holding [] []).head ≠ (holding [] []).tail ∧
      Memory.read (holding [] []).buf (holding [] []).tail = some 0xA0 := by decide

theorem witness_LenCountsTheUnreadBytes :
    2 ≤ (holding [] []).cfg.capacity ∧ (holding [] []).head < (holding [] []).cfg.capacity ∧
      (holding [] []).tail < (holding [] []).cfg.capacity ∧ (holding [] []).len = 2 ∧ (filled [] []).len = 3 ∧
      (opened [] []).len = 0 := by decide

theorem witness_PushAppendsAndPopTakesTheFirst :
    ∃ s t u : State, s.Inv ∧ s.push 0x7E = (none, t) ∧ s.pop = (some 0xA0, u) :=
  ⟨_, _, _, inv_holding_idle, rfl, rfl⟩

/-- V-RB5, and V-RB9's kind of overrun at `C` bytes. -/
theorem witness_FifoRoundTrip :
    ∃ s : State, 2 ≤ s.cfg.capacity ∧ s.head < s.cfg.capacity ∧ s.head = s.tail ∧
      [(0xA0 : Byte), 0xA1, 0xA2].length ≤ s.cfg.capacity - 1 ∧ [(0xA0 : Byte), 0xA1, 0xA2, 0xA3].length = s.cfg.capacity :=
  ⟨{ opened [] [] with head := 2, tail := 2 }, by decide⟩

theorem witness_StepKeepsTheInvariant :
    ∃ s t : State, s.Inv ∧ step s = .next t ∧ t.ovr = true := ⟨_, _, inv_sending, rfl, by decide⟩

theorem witness_ResetAbandonsTheOperation :
    ∃ s t : State, s.rst = true ∧ s.phase = .send ∧ step s = .next t :=
  ⟨{ putting (filled [] []) .send 0x55 with rst := true }, _, rfl, rfl, rfl⟩

theorem witness_BytesAreSentOnlyAfterAReadyStatus :
    ∃ s t : State, s.cfg.WF ∧ s.neverSendsUnready = true ∧ s.phase = .send ∧ step s = .next t :=
  ⟨{ putting (opened [] [.word 0x4000]) .send 0x55 with wire := [⟨0x4000, .word 0x4000⟩] }, _, by decide, by decide,
    by decide, rfl⟩

theorem witness_OnlyCommandWordsAreSent :
    ∃ s t : State, s.cfg.WF ∧ s.sendsOnlyCommands = true ∧ step s = .next t :=
  ⟨putting (opened [] [.word 0x4000]) .send 0x55, _, by decide, by decide, rfl⟩

/-- `ovr` set and cleared by an `open`; `ovr` clear and set by a push. -/
theorem witness_OverrunFlagIsSticky :
    (∃ s t : State, s.rst = false ∧ step s = .next t ∧ s.ovr = true ∧ t.ovr = false) ∧
      ∃ s t : State, s.rst = false ∧ step s = .next t ∧ s.ovr = false ∧ t.ovr = true :=
  ⟨⟨{ busy (closed [] [.word 0]) .cfg (.openSession 0 2) with ovr := true }, _, rfl, rfl, rfl, by decide⟩,
    ⟨putting (filled [] [.word 0x8044]) .send 0x55, _, rfl, rfl, rfl, by decide⟩⟩

theorem witness_BudgetIsConstantInASession :
    ∃ s t : State, s.rst = false ∧ step s = .next t ∧ t.maxMisses ≠ s.maxMisses :=
  ⟨busy (closed [] [.word 0]) .cfg (.openSession 0 2), _, rfl, rfl, by decide⟩

theorem witness_OnlyTheSlotAtHeadIsWritten :
    ∃ s t : State, s.rst = false ∧ step s = .next t ∧ exec .readData s = .next t ∧
      ¬(s.phase = .cfg ∧ t.isOpen = true) ∧ 3 ≠ s.headSlot ∧ Memory.read s.buf 3 = some 0xA0 ∧ t.buf ≠ s.buf :=
  ⟨putting (holding [] [.word 0x8044]) .step 0, _, rfl, rfl, rfl, by decide⟩

theorem witness_OnlyTheSlotAtHeadIsWritten_others :
    ∃ s t : State, exec .readConf s = .next t ∧ Instr.readConf ≠ .readData ∧ s.phase = .poll :=
  ⟨putting (holding [] [.word 0x8044]) .poll 0, _, rfl, by decide⟩

theorem witness_CompletionDeliversOneResult :
    ∃ s t : State, s.rst = false ∧ step s = .next t ∧ s.phase ≠ .idle ∧ t.phase = .idle :=
  ⟨putting (holding [] [.word 0x4000]) .send 0, _, rfl, rfl, by decide, by decide⟩

theorem witness_OverrunFlagImpliesIdleAsR149Says :
    ∃ s t : State, s.Inv ∧ s.rst = false ∧ (s.ovr = true → s.phase = .idle) ∧ step s = .next t ∧ t.ovr = true :=
  ⟨_, _, inv_sending, rfl, by decide, rfl, by decide⟩

/-- A block after reset, and one closed after an overrun. -/
theorem witness_ClosedBlockForgetsItsSession :
    ∃ s s' t t' : State, s ≠ s' ∧ s.isOpen = false ∧ s'.isOpen = false ∧ s.rst = false ∧ s'.rst = false ∧
      s.phase = .cfg ∧ s.phase = s'.phase ∧ s.arg = s'.arg ∧ s.cfg = s'.cfg ∧ s.requests = s'.requests ∧
      s.delivered = s'.delivered ∧ s.answers = s'.answers ∧ s.wire = s'.wire ∧ s.handles = s'.handles ∧
      s.handleOps = s'.handleOps ∧ s.session = s'.session ∧ step s = .next t ∧ step s' = .next t' ∧
      t.isOpen = true :=
  ⟨busy (closed [] [.word 0]) .cfg (.openSession 0 2),
    { busy (filled [] [.word 0]) .cfg (.openSession 0 2) with isOpen := false, ovr := true }, _, _, by decide, rfl, rfl,
    rfl, rfl, rfl, rfl, rfl, rfl, rfl, rfl, rfl, rfl, rfl, rfl, rfl, rfl, rfl, by decide⟩

/-- Two open blocks that differ in the sequencer registers an earlier operation left. -/
theorem witness_ClosedBlockForgetsItsSession_live :
    ∃ s s' t t' : State, s ≠ s' ∧ s.live = s'.live ∧ step s = .next t ∧ step s' = .next t' ∧ t.phase = .drain :=
  ⟨holding [.read 2] [], { holding [.read 2] [] with miss := 2, ret := .put, txb := 7, bi := 1, out := [1], arg := .clear },
    _, _, by decide, by decide, rfl, rfl, by decide⟩

theorem witness_CommandsAreRecognisedByTheirTagAlone :
    Config.standard.WF ∧ commandWord .standard (.writeConf 0xF) = some 0xC40F ∧
      commandWord .standard (.writeData 0xFF) = some 0x80FF := by decide

theorem witness_MachineFollowsTheProcedures :
    ∃ s : State, (s.rst = false ∧ s.phase = .idle ∧ s.requests = [.getByte]) ∧
      ∃ t, callOperation 4 .getByte { s with requests := [] } = .ret (.byte (some 0xA0)) t ∧ decide (t.tail = 0) = true :=
  ⟨holding [.getByte] [.word 0x4000, .word 0], by decide, ret_of_returned (by decide +kernel)⟩

theorem witness_ProceduresFollowTheMachine :
    ∃ s : State, (s.rst = false ∧ s.phase = .idle ∧ s.requests = [.clear] ∧ Instr.clear.format = .hop) ∧
      ∃ u, Reaches (3 + 1) s u ∧ decide (u.phase = .idle ∧ u.requests = [] ∧ u.delivered = [.ok]) = true :=
  ⟨holding [.clear] [.word 0x4000, .word 0], by decide, reaches_of_afterRun (by decide +kernel)⟩

theorem witness_DrainLoopAlwaysEnds :
    ∃ s : State, s.Inv ∧ (s.cfg.capacity - s.len) * s.maxMisses < 3 := ⟨_, inv_filled_idle, by decide⟩

/-- V-DR5 and V-DR6 in one: a hit and two misses. -/
theorem witness_DrainLoopReturns :
    openedQuiet.Inv ∧ 1 ≤ openedQuiet.maxMisses ∧
      ∃ t, callFetchPending 4 openedQuiet = .ret () t ∧ decide (t.contents = [0x11]) = true :=
  ⟨inv_opened_idle, by decide, ret_of_returned (by decide +kernel)⟩

/-- V-DR7. -/
theorem witness_DrainLoopReturns_noBudget :
    ∃ s : State, s.Inv ∧ s.maxMisses = 0 ∧ ∃ t, callFetchPending 1 s = .ret () t ∧ decide (t = s) = true :=
  ⟨{ opened [] [] with maxMisses := 0 },
    ⟨by decide, by decide, by decide, by decide, by decide, by decide, by decide, by decide⟩, rfl,
    ret_of_returned (by decide +kernel)⟩

/-- V-BY3. -/
theorem witness_PutByteSendsItsByteOnce :
    ∃ s : State, s.cfg.WF ∧ ∃ t, callPutBody 4 0x55 s = .ret () t ∧ decide (t.head = 3) = true :=
  ⟨opened [] [.word 0xC000, .word 0xC0A1, .word 0x4000, .word 0x80B2, .word 0x80C3, .word 0x4000, .word 0],
    by decide, ret_of_returned (by decide +kernel)⟩

theorem witness_WriteSendsEveryByteInOrder :
    let s := opened [.write [0x41, 0x42]] [.word 0x4000, .word 0x4000, .word 0x4000, .word 0x7FFF]
    (s.rst = false ∧ s.phase = .idle ∧ s.isOpen = true ∧ s.ovr = false ∧ s.requests = [.write [0x41, 0x42]] ∧
      [(0x41 : Byte), 0x42].length ≤ s.cfg.maxWrite ∧
      s.answers = [(0x4000 : Word), 0x4000, 0x4000, 0x7FFF].map .word ++ []) ∧
      ∀ r ∈ [(0x4000 : Word), 0x4000, 0x4000, 0x7FFF],
        r.getLsbD s.cfg.rBit = false ∧ r.getLsbD s.cfg.tBit = true :=
  ⟨by decide, by simp [opened, closed, State.reset, small, Config.standard]⟩

theorem witness_ReadingOperationsAfterAQuietDrain :
    let s := holding [.getByte] [.word 0x4000, .word 0x0000]
    s.Inv ∧ (s.rst = false ∧ s.phase = .idle ∧ s.isOpen = true ∧ s.ovr = false ∧ s.requests = [.getByte] ∧
      [(0x4000 : Word), 0].length = s.maxMisses ∧ s.answers = [(0x4000 : Word), 0].map .word ++ []) ∧
      ∀ r ∈ [(0x4000 : Word), 0], r.getLsbD s.cfg.rBit = false :=
  ⟨inv_holding_idle, by decide, by simp [holding, opened, closed, State.reset, small, Config.standard]⟩

theorem witness_CloseAndOpenRecoverFromAnOverrun :
    ∃ s : State, s.rst = false ∧ s.phase = .idle ∧ s.isOpen = true ∧ s.ovr = true ∧
      s.requests = [.closeSession, .openSession 0 1] ∧ 1 < 2 ^ s.cfg.missW ∧ s.answers = [.word 0x4000] ∧
      s.handles = [true, true, true] :=
  ⟨{ filled [.closeSession, .openSession 0 1] [.word 0x4000] with ovr := true }, by decide⟩

theorem witness_WaitLoopHasNoBound :
    let s := putting (opened [] [.word 0, .word 0x3FFF]) .poll 0x55
    (s.rst = false ∧ s.phase = .poll ∧ s.answers = [(0 : Word), 0x3FFF].map .word ++ []) ∧
      (∀ r ∈ [(0 : Word), 0x3FFF], r.getLsbD s.cfg.rBit = false ∧ r.getLsbD s.cfg.tBit = false) ∧
      ∃ t, Reaches 2 s t ∧ decide (t.answers = []) = true :=
  ⟨by decide, by simp [putting, opened, closed, State.reset, small, Config.standard],
    reaches_of_afterRun (by decide +kernel)⟩

theorem witness_BlockingReadWithoutBudgetSpins :
    ∃ s : State, s.rst = false ∧ s.phase = .drain ∧ s.ret = .get ∧ s.arg = .read 1 ∧
      (s.out.length : Int) < 1 ∧ s.head = s.tail ∧ s.maxMisses = 0 ∧ s.miss = 0 :=
  ⟨{ busy (opened [] []) .drain (.read 1) with maxMisses := 0 }, by decide⟩

end Sys2Proof.Tests
end

/-! # The machine and the procedures agree (46_sequencer R146)

One simulation settles both directions. A state of the machine in the middle of an operation is the state of the
procedure `under` the registers the procedure does not have; `Agrees` says that the machine, from there on, does what
the outcome of the rest of the procedure says, and that it is still at work when the procedure has reached its bound.
There is one lemma for each part of a procedure, with the rest of the procedure as its continuation. -/

namespace Sys2Proof.Machine

/-! ## Statements in sequence -/

@[simp] theorem Run.ret_andThen {α β : Type} (a : α) (s : State) (f : α → State → Run β) :
    (Run.ret a s).andThen f = f a s := rfl

@[simp] theorem Run.raised_andThen {α β : Type} (e : Err) (s : State) (f : α → State → Run β) :
    (Run.raised e s).andThen f = .raised e s := rfl

@[simp] theorem Run.running_andThen {α β : Type} (s : State) (f : α → State → Run β) :
    (Run.running s).andThen f = .running s := rfl

theorem Run.andThen_assoc {α β γ : Type} (x : Run α) (f : α → State → Run β) (g : β → State → Run γ) :
    (x.andThen f).andThen g = x.andThen fun a s => (f a s).andThen g := by
  cases x <;> rfl

theorem callCapture_miss {s : State} {r : Word} (h : s.replyR r = false) : callCapture r s = .ret false s := by
  simp [callCapture, State.capture, h]

theorem callCapture_overrun {s : State} {r : Word} (h : s.replyR r = true) (hf : s.full = true) :
    callCapture r s = .raised .overrun { s with ovr := true } := by
  simp [callCapture, State.capture, State.push, h, hf]

theorem callCapture_hit {s : State} {r : Word} (h : s.replyR r = true) (hf : s.full = false) :
    callCapture r s = .ret true (s.store (decodeDataByte r)) := by
  simp [callCapture, State.capture, State.push, h, hf]

/-- A `read` that has collected `n` bytes asks for another one (44_block_api R117). -/
def wantsMore (len : Int) (n : Nat) : Prop := (0 < len → (n : Int) < len) ∧ (len < 0 → n < magnitude len)

theorem callReadLoop_of_wantsMore {fuel rounds : Nat} {len : Int} {out : List Byte} {s : State}
    (h : wantsMore len out.length) :
    callReadLoop fuel len (rounds + 1) out s =
      (callGetBody fuel s).andThen fun g s =>
        if len ≤ 0 ∧ g = none then .ret out s else callReadLoop fuel len rounds (out ++ g.toList) s := by
  obtain ⟨hpos, hneg⟩ := h
  by_cases hl : 0 < len
  · simp [callReadLoop, hl, hpos hl, Int.not_le.2 hl]
  · have hcond : len = 0 ∨ out.length < magnitude len := by
      by_cases h0 : len = 0
      · exact .inl h0
      · exact .inr (hneg (by omega))
    simp only [callReadLoop, if_neg hl, if_pos hcond]
    congr 1
    funext g t
    cases g <;> simp [Int.not_lt.1 hl]

theorem callReadLoop_of_not_wantsMore {fuel rounds : Nat} {len : Int} {out : List Byte} {s : State}
    (h : ¬ wantsMore len out.length) : callReadLoop fuel len (rounds + 1) out s = .ret out s := by
  simp only [wantsMore] at h
  by_cases hl : 0 < len
  · have : ¬ (out.length : Int) < len := by omega
    simp [callReadLoop, hl, this]
  · have : ¬ (len = 0 ∨ out.length < magnitude len) := by omega
    simp [callReadLoop, hl, this]

/-- The test of 46_sequencer R144 is the loop condition of 44_block_api R117, taken after the byte. -/
theorem readEnds_eq_false_iff {len : Int} {out : List Byte} (h : wantsMore len out.length) (g : Option Byte) :
    readEnds len g (out ++ g.toList).length = false ↔
      ¬ (len ≤ 0 ∧ g = none) ∧ wantsMore len (out ++ g.toList).length := by
  obtain ⟨hpos, hneg⟩ := h
  by_cases hl : 0 < len
  · cases g <;> simp [readEnds, wantsMore, hl] <;> omega
  · cases g with
    | none => simp [readEnds, hl, Int.not_lt.1 hl]
    | some b => simp [readEnds, wantsMore, hl]; omega

/-! ## Steps of the phases -/

/-- In IDLE the step takes the request at the port (46_sequencer R136). -/
theorem step_of_request {s : State} {i : Instr} {rest : List Instr} (hr : s.rst = false) (hp : s.phase = .idle)
    (hq : s.requests = i :: rest) : step s = exec i { s with requests := rest } := by
  simp [step, hr, State.fetch, hp, hq]

/-- A phase other than `CFG` that sends a command makes the exchange of its word (46_sequencer R135). -/
theorem step_eq_exchange {s : State} {i : Instr} {w : Word} (hr : s.rst = false) (hp : s.phase ≠ .cfg)
    (hi : s.nextCommand = some i) (hw : commandWord s.cfg i = some w) : step s = .next (s.exchange w) := by
  have hstep : step s = exec i s := by
    cases h : s.phase <;> simp_all [step, State.fetch, State.nextCommand]
  have hne : ∀ baud, i ≠ .writeConf baud := by
    rintro baud rfl
    cases h : s.phase <;> simp_all [State.nextCommand]
  rw [hstep]
  cases i with
  | readData => cases hw; simp [exec, execReadData, State.sendCommand, hi]
  | readConf => cases hw; simp [exec, execReadConf, State.sendCommand, hi]
  | writeData d => cases hw; simp [exec, execWriteData, State.sendCommand, hi]
  | writeConf baud => exact absurd rfl (hne baud)
  | _ => cases hw

/-- When its budget is used up, a Drain Loop ends in a step without an exchange (46_sequencer R138, R139). -/
theorem step_eq_finishDrain {s : State} (hr : s.rst = false) (hp : s.phase = .drain) (hm : s.maxMisses ≤ s.miss) :
    step s = .next s.finishDrain := by
  simp [step, hr, State.fetch, hp, State.nextCommand, Nat.not_lt.2 hm, State.internal]

/-- The step of phase `CFG`: the handle, then the exchange (46_sequencer R137). -/
theorem step_of_cfg {s : State} (hr : s.rst = false) (hp : s.phase = .cfg) :
    step s = .next
      (if s.handleOk then
        s.handleAsked.exchange (encodeWriteConfig s.cfg (openPayload s.cfg (argBaud s.arg)))
      else s.handleAsked.fail .ioError) := by
  simp [step, hr, State.fetch, hp, State.nextCommand, exec, execWriteConf]

/-- What the end of a Drain Loop does for a `read` (46_sequencer R139, R144). -/
theorem finishDrain_read_cases {s : State} {len : Int} (hret : s.ret = .get) (harg : s.arg = .read len) :
    (readEnds len s.pop.1 (s.out ++ s.pop.1.toList).length = true ∧
        s.finishDrain = { s.pop.2 with out := s.out ++ s.pop.1.toList }.done (.bytes (s.out ++ s.pop.1.toList))) ∨
      (readEnds len s.pop.1 (s.out ++ s.pop.1.toList).length = false ∧
        s.finishDrain = { s.pop.2 with out := s.out ++ s.pop.1.toList, miss := 0, phase := .drain }) := by
  have hout : s.pop.2.out = s.out := by
    rcases pop_cases s with ⟨-, h⟩ | ⟨-, h⟩ <;> rw [h]
  cases h : readEnds len s.pop.1 (s.out ++ s.pop.1.toList).length <;>
    simp [-List.length_append, State.finishDrain, hret, harg, argLength, State.continueRead, hout, h]

/-! ## Requests are only taken -/

@[simp] theorem pop_requests (s : State) : s.pop.2.requests = s.requests := by
  rcases pop_cases s with ⟨-, h⟩ | ⟨-, h⟩ <;> rw [h]

@[simp] theorem finishPut_requests (s : State) : s.finishPut.requests = s.requests := by
  rcases finishPut_cases s with ⟨bytes, -, -, h⟩ | ⟨-, h⟩ <;> simp [h]

@[simp] theorem continueRead_requests (s : State) (len : Int) (g : Option Byte) :
    (s.continueRead len g).requests = s.requests := by
  unfold State.continueRead
  dsimp only
  split <;> rfl

@[simp] theorem finishDrain_requests (s : State) : s.finishDrain.requests = s.requests := by
  unfold State.finishDrain
  split
  · rfl
  · rfl
  · exact finishPut_requests s
  · split <;> simp

@[simp] theorem onReply_requests (s : State) (r : Word) : (s.onReply r).requests = s.requests := by
  unfold State.onReply
  split
  · rfl
  · rfl
  · rcases onReplyDrain_cases s r with ⟨-, -, h⟩ | ⟨-, -, h⟩ | ⟨-, h⟩ <;> rw [h] <;> rfl
  · unfold State.onReplyPoll
    split_ifs <;> rfl
  · rcases onReplyStep_cases s r with ⟨-, -, h⟩ | ⟨-, -, h⟩ | ⟨-, h⟩ <;> rw [h] <;> rfl
  · rcases onReplySend_cases s r with ⟨-, -, h⟩ | ⟨-, -, h⟩ | ⟨-, h⟩ <;> rw [h] <;> simp

@[simp] theorem onAnswer_requests (s : State) (a : Answer) : (s.onAnswer a).requests = s.requests := by
  cases a with
  | word r => exact onReply_requests s r
  | fail => rfl

@[simp] theorem exchange_requests (s : State) (w : Word) : (s.exchange w).requests = s.requests :=
  onAnswer_requests _ _

theorem sendCommand_requests (s : State) (i : Instr) (w : Word) : (s.sendCommand i w).requests = s.requests := by
  unfold State.sendCommand
  split <;> simp

theorem gated_requests {s : State} {serve : State → State} (h : ∀ t, (serve t).requests = t.requests) :
    (s.gated serve).requests = s.requests := by
  unfold State.gated
  split
  · rfl
  · exact h s

theorem accept_requests {s : State} {i : Instr} {serve : State → State}
    (h : ∀ t, (serve t).requests = t.requests) : (s.accept i serve).requests = s.requests := by
  rcases accept_cases s i serve with ⟨-, ha⟩ | ⟨-, ha⟩ <;> rw [ha]
  exact h _

/-- No instruction takes or adds a request. -/
theorem exec_requests (i : Instr) (s : State) : ∃ t, exec i s = .next t ∧ t.requests = s.requests := by
  cases i with
  | readData => exact ⟨_, rfl, sendCommand_requests _ _ _⟩
  | readConf => exact ⟨_, rfl, sendCommand_requests _ _ _⟩
  | writeData d => exact ⟨_, rfl, sendCommand_requests _ _ _⟩
  | writeConf baud =>
    refine ⟨_, rfl, ?_⟩
    split_ifs <;> simp
  | reply r =>
    refine ⟨_, rfl, ?_⟩
    split
    · rfl
    · split <;> simp [State.exchangeReply]
  | openSession baud mm =>
    refine ⟨_, rfl, accept_requests fun t => ?_⟩
    split <;> rfl
  | closeSession =>
    refine ⟨_, rfl, accept_requests fun t => ?_⟩
    split_ifs <;> rfl
  | putByte b => exact ⟨_, rfl, accept_requests fun _ => gated_requests fun _ => rfl⟩
  | getByte => exact ⟨_, rfl, accept_requests fun _ => gated_requests fun _ => rfl⟩
  | available => exact ⟨_, rfl, accept_requests fun _ => gated_requests fun _ => rfl⟩
  | clear => exact ⟨_, rfl, accept_requests fun _ => gated_requests fun _ => rfl⟩
  | write bytes =>
    refine ⟨_, rfl, accept_requests fun _ => gated_requests fun t => ?_⟩
    split_ifs <;> rfl
  | read len => exact ⟨_, rfl, accept_requests fun _ => gated_requests fun _ => rfl⟩
  | hopUnassigned low => exact ⟨_, rfl, accept_requests fun _ => rfl⟩

/-- A step has a next state, and takes at most the request at the port. -/
theorem step_requests_suffix (s : State) : ∃ t, step s = .next t ∧ t.requests <:+ s.requests := by
  rcases step_cases s with ⟨-, h⟩ | ⟨-, -, -, h⟩ | ⟨i, rest, -, -, hq, h⟩ | ⟨i, -, -, -, h⟩ | ⟨-, -, -, h⟩
  · exact ⟨_, h, List.suffix_refl _⟩
  · exact ⟨_, h, List.suffix_refl _⟩
  · obtain ⟨t, ht, hreq⟩ := exec_requests i { s with requests := rest }
    exact ⟨t, h.trans ht, by rw [hreq, hq]; exact List.suffix_cons i rest⟩
  · obtain ⟨t, ht, hreq⟩ := exec_requests i s
    exact ⟨t, h.trans ht, by rw [hreq]⟩
  · exact ⟨_, h, by rw [finishDrain_requests]⟩

/-! ## Runs -/

@[simp] theorem reaches_zero {s t : State} : Reaches 0 s t ↔ t = s := by
  constructor
  · rintro ⟨⟩; rfl
  · rintro rfl; rfl

theorem reaches_succ {n : Nat} {s t u : State} (h : step s = .next t) : Reaches (n + 1) s u ↔ Reaches n t u := by
  have hcore : core.step s = .next t := h
  simp only [Reaches, Host.Core.run, hcore]

theorem reaches_requests_suffix {n : Nat} {s t : State} (h : Reaches n s t) : t.requests <:+ s.requests := by
  induction n generalizing s with
  | zero => rw [reaches_zero.1 h]
  | succ n ih =>
    obtain ⟨m, hm, hs⟩ := step_requests_suffix s
    exact (ih ((reaches_succ hm).1 h)).trans hs

/-- A block in IDLE that has not taken another request is where it was. -/
theorem reaches_idle_eq {n : Nat} {s t : State} (hr : s.rst = false) (hp : s.phase = .idle) (h : Reaches n s t)
    (hq : t.requests = s.requests) : t = s := by
  cases hs : s.requests with
  | nil =>
    have hstep : step s = .next s := by simp [step, hr, State.fetch, hp, hs, State.internal]
    induction n with
    | zero => exact reaches_zero.1 h
    | succ n ih => exact ih ((reaches_succ hstep).1 h)
  | cons i rest =>
    cases n with
    | zero => exact reaches_zero.1 h
    | succ n =>
      obtain ⟨m, hm, hreq⟩ := exec_requests i { s with requests := rest }
      have hstep : step s = .next m := (step_of_request hr hp hs).trans hm
      have hlen := (reaches_requests_suffix ((reaches_succ hstep).1 h)).length_le
      rw [hreq, hq, hs] at hlen
      simp at hlen

/-- `n` steps from `s` to `t`, none of them made in IDLE: an operation is in progress all the way. -/
inductive Works : Nat → State → State → Prop where
  | refl (s : State) : Works 0 s s
  | head {n : Nat} {s t u : State} (busy : s.phase ≠ .idle) (first : step s = .next t) (others : Works n t u) :
    Works (n + 1) s u

theorem Works.reaches_add {n k : Nat} {s t u : State} (h : Works n s t) : Reaches (n + k) s u ↔ Reaches k t u := by
  induction h with
  | refl s => rw [Nat.zero_add]
  | head _ first _ ih => rw [Nat.add_right_comm, reaches_succ first, ih]

theorem Works.reaches {n : Nat} {s t : State} (h : Works n s t) : Reaches n s t :=
  (h.reaches_add (k := 0)).2 (reaches_zero.2 rfl)

theorem Works.busy_before {n k : Nat} {s t u : State} (h : Works n s t) (hk : k < n) (hu : Reaches k s u) :
    u.phase ≠ .idle := by
  induction h generalizing k with
  | refl s => omega
  | head busy first _ ih =>
    cases k with
    | zero => rw [reaches_zero.1 hu]; exact busy
    | succ k => exact ih (by omega) ((reaches_succ first).1 hu)

/-! ## A procedure's state and the machine's -/

/-- The host port: the requests to come and the results delivered. -/
structure HostPort where
  requests : List Instr
  delivered : List Result

/-- The sequencer registers (10_state R22) with the Miss Counter, which a procedure keeps in a variable. -/
structure Registers where
  phase : Phase
  ret : Ret
  txb : Byte
  arg : Instr
  bi : Nat
  out : List Byte
  miss : Nat

/-- The host port of a state. -/
def State.port (s : State) : HostPort := ⟨s.requests, s.delivered⟩

/-- The sequencer registers of a state. -/
def State.registers (s : State) : Registers := ⟨s.phase, s.ret, s.txb, s.arg, s.bi, s.out, s.miss⟩

/-- The block of `s` in a machine with this host port and these sequencer registers. -/
def State.under (s : State) (port : HostPort) (c : Registers) : State :=
  { s with
    requests := port.requests, delivered := port.delivered
    phase := c.phase, ret := c.ret, txb := c.txb, arg := c.arg, bi := c.bi, out := c.out, miss := c.miss }

@[simp] theorem State.under_answer (s : State) (port : HostPort) (c : Registers) (w : Word) :
    (s.under port c).answer w = s.answer w := rfl

/-- `pop` does not see the sequencer registers. -/
theorem State.under_pop (s : State) (port : HostPort) (c : Registers) :
    (s.under port c).pop = (s.pop.1, s.pop.2.under port c) := by
  by_cases h : s.head = s.tail <;> simp [State.pop, State.empty, State.under, h, State.memRead, State.tailSlot,
    State.advance]

@[simp] theorem pop_rst (s : State) : s.pop.2.rst = s.rst := by
  rcases pop_cases s with ⟨-, h⟩ | ⟨-, h⟩ <;> rw [h]

/-- A request served in IDLE is served in its procedure's state, under the block's own registers with `arg` latched. -/
theorem accept_idle {s : State} (hp : s.phase = .idle) (i : Instr) (serve : State → State) :
    s.accept i serve = serve (s.under s.port { s.registers with arg := i }) := by
  rw [State.accept, if_pos hp]
  rfl

/-! ## Agreement -/

/-- From `m` the machine completes its operation with the result `v` and leaves the block of `t`. -/
def Completes (port : HostPort) (m : State) (v : Result) (t : State) : Prop :=
  ∃ n u, Works n m u ∧ u.rst = false ∧ u.phase = .idle ∧ u.requests = port.requests ∧
    u.delivered = port.delivered ++ [v] ∧ u.shared = t.shared

/-- From `m` the machine completes as the rest of the procedure ends; where that has reached its bound, the machine
works for `k` steps at least. -/
def Agrees (port : HostPort) (k : Nat) (m : State) : Run Result → Prop
  | .ret v t => Completes port m v t
  | .raised e t => Completes port m (.error e) t
  | .running _ => ∃ n u, k ≤ n ∧ Works n m u

section
variable {port : HostPort} {c : Registers} {k fuel : Nat} {s m m' : State} {x : Run Result}

theorem Completes.head {v : Result} {t : State} (hb : m.phase ≠ .idle) (hs : step m = .next m')
    (h : Completes port m' v t) : Completes port m v t := by
  obtain ⟨n, u, hw, hu⟩ := h
  exact ⟨n + 1, u, .head hb hs hw, hu⟩

/-- One step more before the machine agrees. -/
theorem Agrees.head (hb : m.phase ≠ .idle) (hs : step m = .next m') (h : Agrees port (k - 1) m' x) :
    Agrees port k m x := by
  cases x with
  | ret v t => exact Completes.head hb hs h
  | raised e t => exact Completes.head hb hs h
  | running t =>
    obtain ⟨n, u, hk, hw⟩ := h
    exact ⟨n + 1, u, by omega, .head hb hs hw⟩

theorem Agrees.of_le {j : Nat} (hj : j ≤ k) (h : Agrees port k m x) : Agrees port j m x := by
  cases x with
  | ret v t => exact h
  | raised e t => exact h
  | running t =>
    obtain ⟨n, u, hk, hw⟩ := h
    exact ⟨n, u, hj.trans hk, hw⟩

/-- A bound of 0 rounds asks nothing of the machine. -/
theorem agrees_running : Agrees port 0 m (.running s) := ⟨0, m, le_rfl, .refl m⟩

theorem agrees_done (hr : s.rst = false) (v : Result) : Agrees port k ((s.under port c).done v) (.ret v s) :=
  ⟨0, _, .refl _, hr, rfl, rfl, rfl, rfl⟩

theorem agrees_fail (hr : s.rst = false) (e : Err) : Agrees port k ((s.under port c).fail e) (.raised e s) :=
  ⟨0, _, .refl _, hr, rfl, rfl, rfl, rfl⟩

/-! ## Exchanges -/

/-- An exchange of the machine is the `Xchg` of the procedure, its failure included (20_memory R43). -/
theorem agrees_exchange {w : Word} {f : Word → State → Run Result} (hr : s.rst = false)
    (h : ∀ r t, t.rst = false → Agrees port k ((t.under port c).onReply r) (f r t)) :
    Agrees port k ((s.under port c).exchange w) ((callXchg w s).andThen f) := by
  rcases exchange_cases (s.under port c) w with ⟨r, ha, he⟩ | ⟨ha, he⟩ <;> rw [he] <;>
    rw [State.under_answer] at ha <;> simp only [callXchg, ha, Run.ret_andThen, Run.raised_andThen]
  · exact h r (s.exchanged w (.word r)) hr
  · exact agrees_fail (s := s.exchanged w .fail) hr .ioError

/-- `m` is the state of the machine after the capture of `r`: what `onReplyDrain_cases` and its like say. -/
def Captures (s : State) (r : Word) (hit miss : State → State) (m : State) : Prop :=
  (s.replyR r = true ∧ s.full = true ∧ m = { s with ovr := true }.fail .overrun) ∨
    (s.replyR r = true ∧ s.full = false ∧ m = hit (s.store (decodeDataByte r))) ∨
    (s.replyR r = false ∧ m = miss s)

/-- What a phase does with a reply is the `capture` of the procedure, an overrun included (41_drain R82). -/
theorem agrees_capture {r : Word} {hit miss : State → State} {f : Bool → State → Run Result} (hr : s.rst = false)
    (hm : Captures (s.under port c) r hit miss m)
    (hhit : ∀ t, t.rst = false → Agrees port k (hit (t.under port c)) (f true t))
    (hmiss : Agrees port k (miss (s.under port c)) (f false s)) :
    Agrees port k m ((callCapture r s).andThen f) := by
  rcases hm with ⟨h, hf, rfl⟩ | ⟨h, hf, rfl⟩ | ⟨h, rfl⟩
  · rw [callCapture_overrun (s := s) h hf]
    exact agrees_fail (s := { s with ovr := true }) hr .overrun
  · rw [callCapture_hit (s := s) h hf]
    exact hhit (s.store (decodeDataByte r)) hr
  · rw [callCapture_miss (s := s) h]
    exact hmiss

/-! ## Loops -/

/-- The Drain Loop is phase `DRAIN` (41_drain R83, 46_sequencer R138). -/
theorem agrees_fetchLoop {f : Unit → State → Run Result} {miss : Nat} (hk : k ≤ fuel) (hr : s.rst = false)
    (hf : ∀ t miss, t.rst = false → t.maxMisses ≤ miss →
      Agrees port k (t.under port { c with phase := .drain, miss := miss }) (f () t)) :
    Agrees port k (s.under port { c with phase := .drain, miss := miss })
      ((callFetchLoop fuel miss s).andThen f) := by
  induction fuel generalizing k s miss with
  | zero =>
    obtain rfl : k = 0 := by omega
    exact agrees_running
  | succ fuel ih =>
    by_cases hm : miss < s.maxMisses
    · have hnext : (s.under port { c with phase := .drain, miss := miss }).nextCommand = some .readData := if_pos hm
      have hrec (t : State) (ht : t.rst = false) (miss : Nat) :
          Agrees port (k - 1) (t.under port { c with phase := .drain, miss := miss })
            ((callFetchLoop fuel miss t).andThen f) :=
        ih (by omega) ht fun t miss ht hm => (hf t miss ht hm).of_le (by omega)
      simp only [callFetchLoop, if_pos hm, callDrainStep, Run.andThen_assoc]
      refine .head nofun (step_eq_exchange hr nofun hnext rfl) (agrees_exchange hr fun r t ht => ?_)
      exact agrees_capture (hit := fun m => { m with miss := 0 }) (miss := fun m => { m with miss := m.miss + 1 }) ht
        (onReplyDrain_cases _ r) (fun t ht => hrec t ht 0) (hrec t ht (miss + 1))
    · simp only [callFetchLoop, if_neg hm, Run.ret_andThen]
      exact hf s miss hr (Nat.not_lt.1 hm)

/-- The wait loop is the phases `POLL` and `STEP` (43_byte_api R101, 46_sequencer R140, R141). -/
theorem agrees_waitLoop {f : Unit → State → Run Result} (hk : k ≤ fuel) (hr : s.rst = false)
    (hf : ∀ t, t.rst = false → Agrees port k (t.under port { c with phase := .send }) (f () t)) :
    Agrees port k (s.under port { c with phase := .poll }) ((callWaitLoop fuel s).andThen f) := by
  induction fuel generalizing k s with
  | zero =>
    obtain rfl : k = 0 := by omega
    exact agrees_running
  | succ fuel ih =>
    have hrec {j : Nat} (hj : j ≤ k - 1) (t : State) (ht : t.rst = false) :
        Agrees port j (t.under port { c with phase := .poll }) ((callWaitLoop fuel t).andThen f) :=
      ih (by omega) ht fun t ht => (hf t ht).of_le (by omega)
    simp only [callWaitLoop, Run.andThen_assoc]
    refine .head nofun (step_eq_exchange hr nofun rfl rfl) (agrees_exchange hr fun r t ht => ?_)
    change Agrees port (k - 1) (State.onReplyPoll _ r) _
    have hR : (t.under port { c with phase := .poll }).replyR r = t.replyR r := rfl
    have hT : (t.under port { c with phase := .poll }).replyT r = t.replyT r := rfl
    rw [State.onReplyPoll, hR, hT]
    split_ifs
    · simp only [callDrainStep, Run.andThen_assoc]
      refine .head (m := t.under port { c with phase := .step }) nofun (step_eq_exchange ht nofun rfl rfl)
        (agrees_exchange ht fun r t ht => ?_)
      exact agrees_capture (hit := fun m => { m with phase := .poll }) (miss := fun m => { m with phase := .poll }) ht
        (onReplyStep_cases _ r) (hrec (by omega)) (hrec (by omega) t ht)
    · exact (hf t ht).of_le (by omega)
    · exact hrec le_rfl t ht

/-- The body of `putByte` ends in `finishPut` (43_byte_api R101, 46_sequencer R142, R143). -/
theorem agrees_putBody {f : Unit → State → Run Result} {b : Byte} (hk : k ≤ fuel) (hr : s.rst = false)
    (hf : ∀ t c', t.rst = false → c'.arg = c.arg → c'.bi = c.bi →
      Agrees port k (t.under port c').finishPut (f () t)) :
    Agrees port k (s.under port { c with phase := .poll, txb := b }) ((callPutBody fuel b s).andThen f) := by
  have hfinish {j : Nat} (hj : j ≤ k) (t : State) (c' : Registers) (ht : t.rst = false) (ha : c'.arg = c.arg)
      (hb : c'.bi = c.bi) : Agrees port j (t.under port c').finishPut (f () t) := (hf t c' ht ha hb).of_le hj
  simp only [callPutBody, Run.andThen_assoc]
  refine agrees_waitLoop (c := { c with txb := b }) hk hr fun t ht => ?_
  refine .head nofun (step_eq_exchange ht nofun rfl rfl) (agrees_exchange ht fun r t ht => ?_)
  refine agrees_capture (hit := fun m => m.startDrain .put) (miss := State.finishPut) ht (onReplySend_cases _ r)
    (fun t ht => ?_) (hfinish (by omega) t { c with phase := .send, txb := b } ht rfl rfl)
  refine agrees_fetchLoop (c := { c with txb := b, ret := .put }) (by omega) ht fun t miss ht hm => ?_
  exact .head nofun (step_eq_finishDrain ht rfl hm) (hfinish (by omega) t _ ht rfl rfl)

/-- The loop of `write` is the register `bi` (44_block_api R115, 46_sequencer R143). -/
theorem agrees_writeLoop {bytes rest : List Byte} {b : Byte} (hk : k ≤ fuel) (hr : s.rst = false)
    (harg : c.arg = .write bytes) (hrest : bytes.drop c.bi = b :: rest) :
    Agrees port k (s.under port { c with phase := .poll, txb := b })
      ((callWriteLoop fuel (b :: rest) s).deliver fun _ _ => .ok) := by
  induction rest generalizing b c s with
  | nil =>
    simp only [callWriteLoop, Run.deliver, Run.andThen_assoc]
    refine agrees_putBody hk hr fun t c' ht ha hb => ?_
    have hlen : bytes.length - c.bi = 1 := by simpa using congrArg List.length hrest
    rcases finishPut_cases (t.under port c') with ⟨bytes', hw, hlt, -⟩ | ⟨-, he⟩
    · obtain rfl : bytes = bytes' := by simpa using harg.symm.trans (ha.symm.trans hw)
      change c'.bi + 1 < bytes.length at hlt
      omega
    · rw [he]
      exact agrees_done ht .ok
  | cons b' rest ih =>
    rw [callWriteLoop]
    simp only [Run.deliver, Run.andThen_assoc]
    refine agrees_putBody hk hr fun t c' ht ha hb => ?_
    have hdrop : bytes.drop (c.bi + 1) = b' :: rest := by
      rw [← List.drop_drop, hrest]; rfl
    have hget : bytes[c.bi + 1]? = some b' := by
      rw [← List.head?_drop, hdrop]; rfl
    obtain ⟨hlt, -⟩ := List.getElem?_eq_some_iff.1 hget
    rcases finishPut_cases (t.under port c') with ⟨bytes', hw, -, he⟩ | ⟨hle, -⟩
    · obtain rfl : bytes = bytes' := by simpa using harg.symm.trans (ha.symm.trans hw)
      have hbyte : byteAt bytes (c'.bi + 1) = b' := by simp [byteAt, hb, hget]
      rw [he]
      simpa only [State.under, hbyte, Run.deliver] using
        ih (c := { c' with bi := c'.bi + 1 }) ht (ha.trans harg) (by rw [hb]; exact hdrop)
    · have hle : bytes.length ≤ c'.bi + 1 := hle bytes (ha.trans harg)
      omega

/-- The body of `getByte` is a Drain Loop and the pop of its end (43_byte_api R103, 46_sequencer R139). -/
theorem agrees_getBody {f : Option Byte → State → Run Result} (hk : k ≤ fuel) (hr : s.rst = false)
    (hf : ∀ (t : State) miss, t.rst = false →
      Agrees port (k - 1) (t.under port { c with phase := .drain, ret := .get, miss := miss }).finishDrain
        (f t.pop.1 t.pop.2)) :
    Agrees port k (s.under port { c with phase := .drain, ret := .get, miss := 0 })
      ((callGetBody fuel s).andThen f) := by
  simp only [callGetBody, callFetchPending, Run.andThen_assoc]
  refine agrees_fetchLoop (c := { c with ret := .get }) hk hr fun t miss ht hm => ?_
  exact .head nofun (step_eq_finishDrain ht rfl hm) (hf t miss ht)

/-- The loops of `read` are the register `out` (44_block_api R117, 46_sequencer R144). -/
theorem agrees_readLoop {len : Int} {rounds : Nat} (hk : k ≤ fuel) (hrounds : k ≤ rounds) (hr : s.rst = false)
    (harg : c.arg = .read len) (hmore : wantsMore len c.out.length) :
    Agrees port k (s.under port { c with phase := .drain, ret := .get, miss := 0 })
      ((callReadLoop fuel len rounds c.out s).deliver fun out _ => .bytes out) := by
  induction rounds generalizing k c s with
  | zero =>
    obtain rfl : k = 0 := by omega
    exact agrees_running
  | succ rounds ih =>
    simp only [callReadLoop_of_wantsMore hmore, Run.deliver, Run.andThen_assoc]
    refine agrees_getBody hk hr fun t miss ht => ?_
    obtain ⟨hq, hend⟩ | ⟨hq, hend⟩ :=
      finishDrain_read_cases (s := t.under port { c with phase := .drain, ret := .get, miss := miss }) rfl harg
    all_goals
      rw [State.under_pop] at hq hend
      rw [hend]
      have ht : t.pop.2.rst = false := (pop_rst t).trans ht
    · by_cases hnone : len ≤ 0 ∧ t.pop.1 = none
      · simp only [if_pos hnone, Run.ret_andThen]
        have hnil : c.out ++ t.pop.1.toList = c.out := by simp [hnone.2]
        change Agrees port (k - 1) (State.done _ (.bytes (c.out ++ t.pop.1.toList))) _
        rw [hnil]
        exact agrees_done (c := { c with phase := .drain, ret := .get, miss := miss, out := _ }) ht (.bytes c.out)
      · have hstop : ¬ wantsMore len (c.out ++ t.pop.1.toList).length := fun hmore' => by
          have := (readEnds_eq_false_iff hmore t.pop.1).2 ⟨hnone, hmore'⟩
          exact absurd (hq.symm.trans this) (by decide)
        simp only [if_neg hnone]
        cases rounds with
        | zero =>
          obtain hk : k - 1 = 0 := by omega
          rw [hk]
          exact agrees_running
        | succ rounds =>
          rw [callReadLoop_of_not_wantsMore hstop]
          exact agrees_done (c := { c with phase := .drain, ret := .get, miss := miss, out := _ }) ht _
    · obtain ⟨hnone, hmore⟩ := (readEnds_eq_false_iff hmore _).1 hq
      simp only [if_neg hnone]
      exact ih (c := { c with out := c.out ++ t.pop.1.toList }) (by omega) (by omega) ht harg hmore

/-! ## Whole operations -/

/-- The machine's gate is the procedure's (45_session R127). -/
theorem agrees_gated {α : Type} {serve : State → State} {body : State → Run α} {f : α → State → Run Result}
    (hr : s.rst = false) (h : Agrees port k (serve (s.under port c)) ((body s).andThen f)) :
    Agrees port k ((s.under port c).gated serve) ((callGated s body).andThen f) := by
  have hg : (s.under port c).gate = s.gate := rfl
  rw [State.gated, callGated, hg]
  cases s.gate with
  | none => exact h
  | some e => exact agrees_fail hr e

/-- After its acceptance, `open` is phase `CFG` (45_session R125, 46_sequencer R137). -/
theorem agrees_open {baud : BitVec 4} {mm : Nat} (hr : s.rst = false) (harg : c.arg = .openSession baud mm) :
    Agrees port k
      (if (s.under port c).isOpen then (s.under port c).fail .alreadyOpen
      else { s.under port c with phase := .cfg })
      ((callOpen baud mm s).deliver fun _ _ => .ok) := by
  have ho : (s.under port c).isOpen = s.isOpen := rfl
  have hbaud : argBaud c.arg = baud := by rw [harg]; rfl
  have hmm : argMisses c.arg = mm := by rw [harg]; rfl
  rw [ho, callOpen]
  cases s.isOpen with
  | true => exact agrees_fail hr .alreadyOpen
  | false =>
    refine .head nofun (step_of_cfg hr rfl) ?_
    change Agrees port (k - 1)
      (if s.handleOk then State.exchange _ (encodeWriteConfig _ (openPayload _ (argBaud c.arg))) else _) _
    rw [hbaud]
    cases s.handleOk with
    | false => exact agrees_fail (s := s.handleAsked) (c := { c with phase := .cfg }) hr .ioError
    | true =>
      simp only [Run.deliver, Run.andThen_assoc, if_true, Bool.false_eq_true, if_false]
      refine agrees_exchange (s := s.handleAsked) (c := { c with phase := .cfg }) hr fun r t ht => ?_
      change Agrees port (k - 1) (State.done (State.openEffect _ (argMisses c.arg)) .ok) _
      rw [hmm]
      exact agrees_done (s := t.openEffect mm) (c := { c with phase := .cfg }) ht .ok

/-- `close` is its acceptance step (45_session R126). -/
theorem agrees_close (hr : s.rst = false) :
    Agrees port k
      (if (s.under port c).isOpen then
        if (s.under port c).handleOk then (s.under port c).handleAsked.closeEffect.done .ok
        else (s.under port c).handleAsked.closeEffect.fail .ioError
      else (s.under port c).closeEffect.done .ok)
      ((callClose s).deliver fun _ _ => .ok) := by
  have ho : (s.under port c).isOpen = s.isOpen := rfl
  have hok : (s.under port c).handleOk = s.handleOk := rfl
  rw [ho, hok, callClose]
  cases s.isOpen with
  | false => exact agrees_done (s := s.closeEffect) hr .ok
  | true =>
    cases s.handleOk with
    | false => exact agrees_fail (s := s.handleAsked.closeEffect) hr .ioError
    | true => exact agrees_done (s := s.handleAsked.closeEffect) hr .ok

/-- A host operation taken in IDLE is served as its procedure runs. -/
theorem agrees_operation (i : Instr) (hr : s.rst = false) (hp : s.phase = .idle) (hi : i.format = .hop)
    (hk : k ≤ fuel) : ∃ m, exec i s = .next m ∧ Agrees s.port k m (callOperation fuel i s) := by
  cases i with
  | readData => cases hi
  | readConf => cases hi
  | writeData d => cases hi
  | writeConf baud => cases hi
  | reply r => cases hi
  | openSession baud mm =>
    refine ⟨_, rfl, ?_⟩
    rw [accept_idle hp]
    exact agrees_open hr rfl
  | closeSession =>
    refine ⟨_, rfl, ?_⟩
    rw [accept_idle hp]
    exact agrees_close hr
  | putByte b =>
    refine ⟨_, rfl, ?_⟩
    rw [accept_idle hp]
    refine agrees_gated hr (agrees_putBody (c := { s.registers with arg := .putByte b }) hk hr fun t c' ht ha _ => ?_)
    rcases finishPut_cases (t.under s.port c') with ⟨bytes, hw, -⟩ | ⟨-, he⟩
    · cases ha.symm.trans hw
    · rw [he]
      exact agrees_done ht .ok
  | getByte =>
    refine ⟨_, rfl, ?_⟩
    rw [accept_idle hp]
    refine agrees_gated hr (agrees_getBody (c := { s.registers with arg := .getByte }) hk hr fun t miss ht => ?_)
    change Agrees s.port (k - 1) (State.done (State.pop _).2 (.byte (State.pop _).1)) _
    rw [State.under_pop]
    exact agrees_done ((pop_rst t).trans ht) (.byte t.pop.1)
  | available =>
    refine ⟨_, rfl, ?_⟩
    rw [accept_idle hp]
    refine agrees_gated hr
      (agrees_fetchLoop (c := { s.registers with arg := .available, ret := .avail }) hk hr fun t miss ht hm => ?_)
    exact .head nofun (step_eq_finishDrain ht rfl hm) (agrees_done ht (.count t.len))
  | clear =>
    refine ⟨_, rfl, ?_⟩
    rw [accept_idle hp]
    simp only [callOperation, Run.deliver, Run.andThen_assoc]
    refine agrees_gated hr
      (agrees_fetchLoop (c := { s.registers with arg := .clear, ret := .clear }) hk hr fun t miss ht hm => ?_)
    exact .head nofun (step_eq_finishDrain ht rfl hm) 
      (agrees_done (s := t.resetEmpty)
        (c := { s.registers with phase := .drain, arg := .clear, ret := .clear, miss := miss }) ht .ok)
  | write bytes =>
    refine ⟨_, rfl, ?_⟩
    rw [accept_idle hp]
    refine agrees_gated hr ?_
    have hmax : (s.under s.port { s.registers with arg := .write bytes }).cfg = s.cfg := rfl
    rw [hmax]
    split_ifs with hempty hlong
    · exact agrees_fail hr .validation
    · exact agrees_fail hr .validation
    · cases bytes with
      | nil => cases hempty rfl
      | cons b rest =>
        exact agrees_writeLoop (c := { s.registers with arg := .write (b :: rest), bi := 0 }) hk hr rfl rfl
  | read len =>
    refine ⟨_, rfl, ?_⟩
    rw [accept_idle hp]
    have hmore : wantsMore (lengthOperand s.cfg len) ([] : List Byte).length := by
      simp [wantsMore, magnitude]; omega
    exact agrees_gated hr (agrees_readLoop
      (c := { s.registers with arg := .read (lengthOperand s.cfg len), out := [] }) hk hk hr rfl hmore)
  | hopUnassigned low =>
    refine ⟨_, rfl, ?_⟩
    rw [accept_idle hp]
    exact agrees_fail hr .validation

end

/-- A word of the link has no procedure. -/
theorem callOperation_of_format_ne {i : Instr} (hi : i.format ≠ .hop) (fuel : Nat) (s : State) :
    callOperation fuel i s = .running s := by
  cases i with
  | readData | readConf | writeData _ | writeConf _ | reply _ => rfl
  | _ => exact absurd rfl hi

/-- Settles O47: the simulation, where the procedure has ended. -/
theorem machineFollowsTheProcedures : Obligations.MachineFollowsTheProcedures := by
  intro s i rest fuel v t hr hp hq hend
  have hi : i.format = .hop := by
    by_contra hi
    rw [callOperation_of_format_ne hi] at hend
    rcases hend with h | ⟨e, -, h⟩ <;> cases h
  obtain ⟨m, hm, hagrees⟩ :=
    agrees_operation (s := { s with requests := rest }) (k := fuel) (fuel := fuel) i hr hp hi le_rfl
  have hdone : Completes ⟨rest, s.delivered⟩ m v t := by
    rcases hend with h | ⟨e, rfl, h⟩ <;> rw [h] at hagrees <;> exact hagrees
  obtain ⟨n, u, hw, -, hu⟩ := hdone
  exact ⟨n, u, (reaches_succ ((step_of_request hr hp hq).trans hm)).2 hw.reaches, hu⟩

/-- Where the machine has reached IDLE with no other request taken, it is where its operation was completed. -/
theorem Completes.eq_of_reaches {port : HostPort} {n : Nat} {m u : State} {v v' : Result} {t : State}
    (h : Completes port m v t) (hu : Reaches n m u) (hp : u.phase = .idle) (hq : u.requests = port.requests)
    (hd : u.delivered = port.delivered ++ [v']) : v' = v ∧ u.shared = t.shared := by
  obtain ⟨j, w, hw, hwr, hwp, hwq, hwd, hshared⟩ := h
  have hj : j ≤ n := Nat.not_lt.1 fun hlt => hw.busy_before hlt hu hp
  obtain ⟨l, rfl⟩ := Nat.exists_eq_add_of_le hj
  obtain rfl := reaches_idle_eq hwr hwp (hw.reaches_add.1 hu) (hq.trans hwq.symm)
  exact ⟨by simpa using hd.symm.trans hwd, hshared⟩

/-- Settles O48: the simulation with one round more than the machine has made steps, so that a procedure still running
would have the machine at work where it is in IDLE. -/
theorem proceduresFollowTheMachine : Obligations.ProceduresFollowTheMachine := by
  intro s u i rest n v hr hp hq hi hrun hup huq hud
  obtain ⟨m, hm, hagrees⟩ :=
    agrees_operation (s := { s with requests := rest }) (k := n + 1) (fuel := n + 1) i hr hp hi le_rfl
  have hrun : Reaches n m u := (reaches_succ ((step_of_request hr hp hq).trans hm)).1 hrun
  cases h : callOperation (n + 1) i { s with requests := rest } with
  | ret v' t =>
    rw [h] at hagrees
    obtain ⟨rfl, hshared⟩ := Completes.eq_of_reaches hagrees hrun hup huq hud
    exact ⟨n + 1, t, hshared, .inl h⟩
  | raised e t =>
    rw [h] at hagrees
    obtain ⟨rfl, hshared⟩ := Completes.eq_of_reaches hagrees hrun hup huq hud
    exact ⟨n + 1, t, hshared, .inr ⟨e, rfl, h⟩⟩
  | running t =>
    rw [h] at hagrees
    obtain ⟨j, w, hj, hw⟩ := hagrees
    exact absurd hup (hw.busy_before hj hrun)

end Sys2Proof.Machine

/-! # The invariant of the block, the overrun flag and the budget (10_state R12, R16, R17)

A step without reset is one of five moves (`Moves`). What a move does to the Ring Buffer, `ovr` and `maxMisses` is said
once (`StorageChange`), and what it does to the phase and the registers the phase uses is said once (`phaseOk_of_moves`).
The invariant is the two together; `ovr` and `maxMisses` need the first alone. -/

namespace Sys2Proof.Machine

/-! ## The moves of a step without reset -/

/-- The state with other ports to the environment and to the collaborator. -/
def State.withPorts (s : State) (answers : List Answer) (wire : List Exchange) (handles : List Bool)
    (handleOps : Nat) : State :=
  { s with answers := answers, wire := wire, handles := handles, handleOps := handleOps }

/-- What a step without reset can be. An exchange changes the ports before its answer takes effect, and so does the
handle operation before the exchange of `CFG`. -/
inductive Moves (s : State) : State → Prop where
  /-- No request in IDLE. -/
  | waits (hp : s.phase = .idle) : Moves s s
  /-- The request at the port is accepted or refused (46_sequencer R136). -/
  | serves {i : Instr} {rest : List Instr} {t : State} (hp : s.phase = .idle)
      (ht : exec i { s with requests := rest } = .next t) : Moves s t
  /-- The phase's exchange is answered with a word. -/
  | replied {answers : List Answer} {wire : List Exchange} {handles : List Bool} {handleOps : Nat} {r : Word}
      (hc : s.nextCommand ≠ none) : Moves s ((s.withPorts answers wire handles handleOps).onReply r)
  /-- The exchange or the handle operation fails. -/
  | failed {answers : List Answer} {wire : List Exchange} {handles : List Bool} {handleOps : Nat} :
      Moves s ((s.withPorts answers wire handles handleOps).fail .ioError)
  /-- A Drain Loop ends (46_sequencer R139). -/
  | drained (hp : s.phase = .drain) : Moves s s.finishDrain

section
variable {s t : State}

theorem moves_exchange (hc : s.nextCommand ≠ none) (answers : List Answer) (wire : List Exchange)
    (handles : List Bool) (handleOps : Nat) (w : Word) :
    Moves s ((s.withPorts answers wire handles handleOps).exchange w) := by
  rcases exchange_cases (s.withPorts answers wire handles handleOps) w with ⟨r, -, h⟩ | ⟨-, h⟩ <;> rw [h]
  · exact .replied hc
  · exact .failed

theorem commandWord_of_nextCommand {i : Instr} (h : s.nextCommand = some i) :
    ∃ w, commandWord s.cfg i = some w := by
  unfold State.nextCommand at h
  split at h
  case h_3 => split at h <;> cases h; exact ⟨_, rfl⟩
  all_goals cases h
  all_goals exact ⟨_, rfl⟩

theorem moves_of_step (hr : s.rst = false) (h : step s = .next t) : Moves s t := by
  rcases step_cases s with ⟨hr', -⟩ | ⟨-, hp, -, hs⟩ | ⟨i, rest, -, hp, -, hs⟩ | ⟨i, -, -, hi, hs⟩ | ⟨-, hp, -, hs⟩
  · exact absurd (hr.symm.trans hr') Bool.false_ne_true
  · cases hs.symm.trans h
    exact .waits hp
  · exact .serves hp (hs.symm.trans h)
  · have hc : s.nextCommand ≠ none := by simp [hi]
    by_cases hp : s.phase = .cfg
    · cases (step_of_cfg hr hp).symm.trans h
      split
      · exact moves_exchange hc s.answers s.wire s.handles.tail (s.handleOps + 1) _
      · exact .failed (answers := s.answers) (wire := s.wire) (handles := s.handles.tail) (handleOps := s.handleOps + 1)
    · obtain ⟨w, hw⟩ := commandWord_of_nextCommand hi
      cases (step_eq_exchange hr hp hi hw).symm.trans h
      exact moves_exchange hc s.answers s.wire s.handles s.handleOps w
  · cases hs.symm.trans h
    exact .drained hp

/-! ## The storage -/

/-- The Ring Buffer with its parameters, the overrun flag and the budget. -/
structure Storage where
  cfg : Config
  ovr : Bool
  head : Nat
  tail : Nat
  buf : List Host.Cell
  maxMisses : Nat

/-- The storage of a state. -/
def State.storage (s : State) : Storage := ⟨s.cfg, s.ovr, s.head, s.tail, s.buf, s.maxMisses⟩

/-- What a step without reset can do to the storage, with what it is the end of. -/
inductive StorageChange (s t : State) : Prop where
  | kept (h : t.storage = s.storage)
  | stored (b : Byte) (hfull : s.full = false) (h : t.storage = (s.store b).storage)
  | popped (hne : s.head ≠ s.tail) (h : t.storage = { s with tail := s.advance s.tail }.storage)
  | emptied (h : t.storage = s.resetEmpty.storage)
  | overran (hfull : s.full = true) (hp : t.phase = .idle) (hd : t.delivered = s.delivered ++ [.error .overrun])
      (h : t.storage = { s with ovr := true }.storage)
  | opened (hp : s.phase = .cfg) (ho : t.isOpen = true) (hd : t.delivered = s.delivered ++ [.ok])
      (h : t.storage = (s.openEffect (argMisses s.arg)).storage)

/-- The storage does not depend on the ports. -/
theorem StorageChange.of_withPorts {answers : List Answer} {wire : List Exchange} {handles : List Bool}
    {handleOps : Nat} (h : StorageChange (s.withPorts answers wire handles handleOps) t) : StorageChange s t := by
  cases h with
  | kept h => exact .kept h
  | stored b hfull h => exact .stored b hfull h
  | popped hne h => exact .popped hne h
  | emptied h => exact .emptied h
  | overran hfull hp hd h => exact .overran hfull hp hd h
  | opened hp ho hd h => exact .opened hp ho hd h

theorem finishPut_storage (s : State) : s.finishPut.storage = s.storage := by
  rcases finishPut_cases s with ⟨bytes, -, -, h⟩ | ⟨-, h⟩ <;> rw [h] <;> rfl

theorem continueRead_storage (s : State) (len : Int) (g : Option Byte) :
    (s.continueRead len g).storage = s.storage := by
  unfold State.continueRead
  dsimp only
  split <;> rfl

theorem finishDrain_storage_of_get (hret : s.ret = .get) : s.finishDrain.storage = s.pop.2.storage := by
  simp only [State.finishDrain, hret]
  split
  · rfl
  · exact continueRead_storage _ _ _

theorem finishDrain_storageChange (s : State) : StorageChange s s.finishDrain := by
  cases hret : s.ret with
  | avail => exact .kept (by simp only [State.finishDrain, hret]; rfl)
  | clear => exact .emptied (by simp only [State.finishDrain, hret]; rfl)
  | put => exact .kept (by simp only [State.finishDrain, hret]; exact finishPut_storage s)
  | get =>
    have h := finishDrain_storage_of_get hret
    rcases pop_cases s with ⟨-, hpop⟩ | ⟨hne, hpop⟩ <;> rw [hpop] at h
    · exact .kept h
    · exact .popped hne h

/-- A captured reply changes the storage by its byte alone, where the phase goes on without touching it. -/
theorem storageChange_of_captures {r : Word} {hit miss : State → State} (h : Captures s r hit miss t)
    (hhit : ∀ u, (hit u).storage = u.storage) (hmiss : ∀ u, (miss u).storage = u.storage) : StorageChange s t := by
  rcases h with ⟨-, hfull, rfl⟩ | ⟨-, hfull, rfl⟩ | ⟨-, rfl⟩
  · exact .overran hfull rfl rfl rfl
  · exact .stored _ hfull (hhit _)
  · exact .kept (hmiss s)

theorem onReplyPoll_storage (s : State) (r : Word) : (s.onReplyPoll r).storage = s.storage := by
  unfold State.onReplyPoll
  split_ifs <;> rfl

theorem onReply_storageChange (s : State) (r : Word) : StorageChange s (s.onReply r) := by
  unfold State.onReply
  split
  next => exact .kept rfl
  next hp => exact .opened hp rfl rfl rfl
  next =>
    exact storageChange_of_captures (hit := fun m => { m with miss := 0 })
      (miss := fun m => { m with miss := m.miss + 1 }) (onReplyDrain_cases s r) (fun _ => rfl) fun _ => rfl
  next => exact .kept (onReplyPoll_storage s r)
  next =>
    exact storageChange_of_captures (hit := fun m => { m with phase := .poll })
      (miss := fun m => { m with phase := .poll }) (onReplyStep_cases s r) (fun _ => rfl) fun _ => rfl
  next =>
    exact storageChange_of_captures (hit := fun m => m.startDrain .put) (miss := State.finishPut)
      (onReplySend_cases s r) (fun _ => rfl) finishPut_storage

/-! ## What each phase implies -/

theorem phaseOk_of_idle (hp : s.phase = .idle) : s.phaseOk = true := by
  simp [State.phaseOk, hp]

theorem phaseOk_cfg_iff (hp : s.phase = .cfg) :
    s.phaseOk = true ↔
      s.isOpen = false ∧ ∃ baud mm, s.arg = .openSession baud mm ∧ mm < 2 ^ s.cfg.missW := by
  cases h : s.arg <;> simp [State.phaseOk, hp, h]

/-- The phases in which a byte is on its way. -/
theorem phaseOk_putting_iff (hp : s.phase = .poll ∨ s.phase = .step ∨ s.phase = .send) :
    s.phaseOk = true ↔ s.isOpen = true ∧ s.ovr = false ∧ s.sending = true := by
  rcases hp with hp | hp | hp <;> simp [State.phaseOk, hp, and_assoc]

/-- The request is one the Drain Loop's `ret` serves (46_sequencer R149 (b), (c)). -/
def State.serving (s : State) : Prop :=
  match s.ret with
  | .put => s.sending = true
  | .get => s.getting = true
  | .avail => s.arg = .available
  | .clear => s.arg = .clear

theorem phaseOk_drain_iff (hp : s.phase = .drain) :
    s.phaseOk = true ↔ s.isOpen = true ∧ s.ovr = false ∧ s.miss ≤ s.maxMisses ∧ s.serving := by
  cases h : s.ret <;> simp [State.phaseOk, State.serving, hp, h, and_assoc]

theorem sending_write_iff {bytes : List Byte} (h : s.arg = .write bytes) :
    s.sending = true ↔ s.bi < bytes.length ∧ bytes.length ≤ s.cfg.maxWrite ∧ s.txb = byteAt bytes s.bi := by
  simp [State.sending, h, and_assoc]

/-- Whatever its length, a `read` asks for a first byte (46_sequencer R136). -/
theorem wantsMore_zero (len : Int) : wantsMore len 0 := by
  simp only [wantsMore, magnitude]
  omega

theorem getting_read_iff {len : Int} (h : s.arg = .read len) :
    s.getting = true ↔ wantsMore len s.out.length := by
  simp only [State.getting, h, wantsMore, Bool.and_eq_true, Bool.or_eq_true, decide_eq_true_eq]
  omega

theorem finishPut_phaseOk (ho : s.isOpen = true) (hv : s.ovr = false) (hs : s.sending = true) :
    s.finishPut.phaseOk = true := by
  rcases finishPut_cases s with ⟨bytes, harg, hlt, h⟩ | ⟨-, h⟩ <;> rw [h]
  · obtain ⟨-, hmax, -⟩ := (sending_write_iff harg).1 hs
    exact (phaseOk_putting_iff (.inl rfl)).2 ⟨ho, hv, Iff.mpr (sending_write_iff harg) ⟨hlt, hmax, rfl⟩⟩
  · exact phaseOk_of_idle rfl

theorem finishDrain_get_phaseOk (ho : s.isOpen = true) (hv : s.ovr = false) (hret : s.ret = .get)
    (hg : s.getting = true) : s.finishDrain.phaseOk = true := by
  cases harg : s.arg with
  | read len =>
    have hmore := (getting_read_iff harg).1 hg
    have hpop : s.pop.2.isOpen = true ∧ s.pop.2.ovr = false ∧ s.pop.2.ret = .get ∧ s.pop.2.arg = .read len := by
      rcases pop_cases s with ⟨-, h⟩ | ⟨-, h⟩ <;> rw [h] <;> exact ⟨ho, hv, hret, harg⟩
    obtain ⟨ho, hv, hret', harg'⟩ := hpop
    rcases finishDrain_read_cases hret harg with ⟨-, h⟩ | ⟨hend, h⟩ <;> rw [h]
    · exact phaseOk_of_idle rfl
    · obtain ⟨-, hmore'⟩ := (readEnds_eq_false_iff hmore _).1 hend
      refine (phaseOk_drain_iff rfl).2 ⟨ho, hv, Nat.zero_le _, ?_⟩
      simp only [State.serving, hret']
      exact Iff.mpr (getting_read_iff harg') hmore'
  | _ => exact phaseOk_of_idle (by simp [State.finishDrain, hret, harg, argLength])

theorem finishDrain_phaseOk (hp : s.phase = .drain) (h : s.phaseOk = true) : s.finishDrain.phaseOk = true := by
  obtain ⟨ho, hv, -, hserv⟩ := (phaseOk_drain_iff hp).1 h
  cases hret : s.ret with
  | avail => exact phaseOk_of_idle (by simp [State.finishDrain, hret])
  | clear => exact phaseOk_of_idle (by simp [State.finishDrain, hret])
  | put =>
    simp only [State.serving, hret] at hserv
    simp only [State.finishDrain, hret]
    exact finishPut_phaseOk ho hv hserv
  | get =>
    simp only [State.serving, hret] at hserv
    exact finishDrain_get_phaseOk ho hv hret hserv

/-- An overrun ends in IDLE, so that only a hit and a miss have to be looked at. -/
theorem phaseOk_of_captures {r : Word} {hit miss : State → State} (h : Captures s r hit miss t)
    (hhit : (hit (s.store (decodeDataByte r))).phaseOk = true) (hmiss : (miss s).phaseOk = true) :
    t.phaseOk = true := by
  rcases h with ⟨-, -, rfl⟩ | ⟨-, -, rfl⟩ | ⟨-, rfl⟩
  · exact phaseOk_of_idle rfl
  · exact hhit
  · exact hmiss

theorem onReply_phaseOk {r : Word} (hc : s.nextCommand ≠ none) (h : s.phaseOk = true) :
    (s.onReply r).phaseOk = true := by
  cases hp : s.phase with
  | idle => simp [State.nextCommand, hp] at hc
  | cfg => exact phaseOk_of_idle (by simp [State.onReply, hp, State.onReplyCfg])
  | drain =>
    obtain ⟨ho, hv, -, hserv⟩ := (phaseOk_drain_iff hp).1 h
    have hlt : s.miss < s.maxMisses := by simpa [State.nextCommand, hp] using hc
    simp only [State.onReply, hp]
    exact phaseOk_of_captures (hit := fun m => { m with miss := 0 }) (miss := fun m => { m with miss := m.miss + 1 })
      (onReplyDrain_cases s r) (Iff.mpr (phaseOk_drain_iff hp) ⟨ho, hv, Nat.zero_le _, hserv⟩)
      (Iff.mpr (phaseOk_drain_iff hp) ⟨ho, hv, hlt, hserv⟩)
  | poll =>
    have hput := (phaseOk_putting_iff (.inl hp)).1 h
    simp only [State.onReply, hp, State.onReplyPoll]
    split_ifs
    · exact (phaseOk_putting_iff (.inr (.inl rfl))).2 hput
    · exact (phaseOk_putting_iff (.inr (.inr rfl))).2 hput
    · exact (phaseOk_putting_iff (.inl rfl)).2 hput
  | step =>
    have hput := (phaseOk_putting_iff (.inr (.inl hp))).1 h
    simp only [State.onReply, hp]
    exact phaseOk_of_captures (hit := fun m => { m with phase := .poll }) (miss := fun m => { m with phase := .poll })
      (onReplyStep_cases s r) ((phaseOk_putting_iff (.inl rfl)).2 hput) ((phaseOk_putting_iff (.inl rfl)).2 hput)
  | send =>
    obtain ⟨ho, hv, hs⟩ := (phaseOk_putting_iff (.inr (.inr hp))).1 h
    simp only [State.onReply, hp]
    exact phaseOk_of_captures (hit := fun m => m.startDrain .put) (miss := State.finishPut) (onReplySend_cases s r)
      ((phaseOk_drain_iff rfl).2 ⟨ho, hv, Nat.zero_le _, hs⟩) (finishPut_phaseOk ho hv hs)

/-! ## Requests served in IDLE -/

/-- Serving a request leaves the storage alone and the phase it enters has what it implies. -/
def Served (s t : State) : Prop := t.storage = s.storage ∧ t.phaseOk = true

theorem served_of_idle (hs : t.storage = s.storage) (hp : t.phase = .idle) : Served s t := ⟨hs, phaseOk_of_idle hp⟩

theorem served_fail (s : State) (e : Err) : Served s (s.fail e) := served_of_idle rfl rfl

theorem served_gated {serve : State → State} (h : s.isOpen = true → s.ovr = false → Served s (serve s)) :
    Served s (s.gated serve) := by
  unfold State.gated
  rcases gate_cases s with ⟨-, hg⟩ | ⟨-, -, hg⟩ | ⟨ho, hv, hg⟩ <;> rw [hg]
  · exact served_fail s _
  · exact served_fail s _
  · exact h ho hv

theorem served_accept {i : Instr} {serve : State → State} (hp : s.phase = .idle)
    (h : Served { s with arg := i } (serve { s with arg := i })) : Served s (s.accept i serve) := by
  rw [State.accept, if_pos hp]
  exact h

theorem served_startDrain {ret : Ret} (ho : s.isOpen = true) (hv : s.ovr = false)
    (h : (s.startDrain ret).serving) : Served s (s.startDrain ret) :=
  ⟨rfl, (phaseOk_drain_iff rfl).2 ⟨ho, hv, Nat.zero_le _, h⟩⟩

/-- A word of the link has no effect in IDLE. -/
theorem exec_idle_of_format_ne {i : Instr} (hp : s.phase = .idle) (hi : i.format ≠ .hop) : exec i s = .next s := by
  have hc : s.nextCommand = none := by simp [State.nextCommand, hp]
  cases i with
  | readData => simp [exec, execReadData, State.sendCommand, hc]
  | readConf => simp [exec, execReadConf, State.sendCommand, hc]
  | writeData d => simp [exec, execWriteData, State.sendCommand, hc]
  | writeConf baud => simp [exec, execWriteConf, hc]
  | reply r => simp [exec, execReply, hc]
  | _ => exact absurd rfl hi

theorem exec_served (hp : s.phase = .idle) (i : Instr) : ∃ t, exec i s = .next t ∧ Served s t := by
  cases i with
  | readData | readConf | writeData _ | writeConf _ | reply _ =>
    exact ⟨s, exec_idle_of_format_ne hp nofun, served_of_idle rfl hp⟩
  | openSession baud mm =>
    refine ⟨_, rfl, served_accept hp ?_⟩
    split
    · exact served_fail _ _
    next ho =>
      have hmm : missesOperand s.cfg mm < 2 ^ s.cfg.missW := Nat.mod_lt _ (Nat.two_pow_pos _)
      exact ⟨rfl, (phaseOk_cfg_iff rfl).2 ⟨Bool.eq_false_iff.2 ho, baud, _, rfl, hmm⟩⟩
  | closeSession =>
    refine ⟨_, rfl, served_accept hp ?_⟩
    split_ifs <;> exact served_of_idle rfl rfl
  | putByte b =>
    exact ⟨_, rfl, served_accept hp (served_gated fun ho hv =>
      ⟨rfl, (phaseOk_putting_iff (.inl rfl)).2 ⟨ho, hv, decide_eq_true rfl⟩⟩)⟩
  | getByte => exact ⟨_, rfl, served_accept hp (served_gated fun ho hv => served_startDrain ho hv rfl)⟩
  | available => exact ⟨_, rfl, served_accept hp (served_gated fun ho hv => served_startDrain ho hv rfl)⟩
  | clear => exact ⟨_, rfl, served_accept hp (served_gated fun ho hv => served_startDrain ho hv rfl)⟩
  | write bytes =>
    refine ⟨_, rfl, served_accept hp (served_gated fun ho hv => ?_)⟩
    split_ifs with hempty hlong
    · exact served_fail _ _
    · exact served_fail _ _
    · exact ⟨rfl, (phaseOk_putting_iff (.inl rfl)).2
        ⟨ho, hv, (sending_write_iff rfl).2 ⟨Nat.pos_of_ne_zero hempty, Nat.not_lt.1 hlong, rfl⟩⟩⟩
  | read len =>
    refine ⟨_, rfl, served_accept hp (served_gated fun ho hv => ?_)⟩
    exact served_startDrain (s := { s with arg := .read _, out := [] }) ho hv
      ((getting_read_iff rfl).2 (wantsMore_zero _))
  | hopUnassigned low => exact ⟨_, rfl, served_accept hp (served_fail _ _)⟩

theorem served_of_exec {i : Instr} (hp : s.phase = .idle) (h : exec i s = .next t) : Served s t := by
  obtain ⟨t', ht', hs⟩ := exec_served hp i
  cases ht'.symm.trans h
  exact hs

/-! ## Every move -/

theorem storageChange_of_moves (h : Moves s t) : StorageChange s t := by
  cases h with
  | waits hp => exact .kept rfl
  | @serves i rest _ hp ht =>
    obtain ⟨hs, -⟩ := served_of_exec (s := { s with requests := rest }) hp ht
    exact .kept hs
  | replied hc => exact (onReply_storageChange _ _).of_withPorts
  | failed => exact .kept rfl
  | drained hp => exact finishDrain_storageChange s

theorem phaseOk_of_moves (hok : s.phaseOk = true) (h : Moves s t) : t.phaseOk = true := by
  cases h with
  | waits hp => exact hok
  | @serves i rest _ hp ht => exact (served_of_exec (s := { s with requests := rest }) hp ht).2
  | @replied answers wire handles handleOps r hc =>
    exact onReply_phaseOk (s := s.withPorts answers wire handles handleOps) hc hok
  | failed => exact phaseOk_of_idle rfl
  | drained hp => exact finishDrain_phaseOk hp hok

/-! ## The occupied window -/

/-- The slot behind the occupied window is the one `head` addresses (10_state R16 (e)). -/
theorem windowSlot_len (hh : s.head < s.cfg.capacity) (ht : s.tail < s.cfg.capacity) :
    s.windowSlot s.len = s.headSlot := by
  rw [State.windowSlot, State.headSlot, len_eq s hh ht]
  split
  · congr 1
    omega
  · rw [← Nat.add_mod_right s.head]
    congr 1
    omega

theorem full_eq_false_iff : s.full = false ↔ s.advance s.head ≠ s.tail := by simp [State.full]

theorem advance_lt (h : 0 < s.cfg.capacity) (i : Nat) : s.advance i < s.cfg.capacity := Nat.mod_lt _ h

theorem len_store {b : Byte} (hh : s.head < s.cfg.capacity) (ht : s.tail < s.cfg.capacity) (hf : s.full = false) :
    (s.store b).len = s.len + 1 := by
  have hlt := advance_lt (Nat.zero_lt_of_lt hh) s.head
  have hne := full_eq_false_iff.1 hf
  have hlen : (s.store b).len =
      if s.tail ≤ s.advance s.head then s.advance s.head - s.tail
      else s.advance s.head + s.cfg.capacity - s.tail := len_eq (s.store b) hlt ht
  rw [hlen, len_eq s hh ht]
  rw [advance_eq s s.head hh] at hne ⊢
  split_ifs at hne ⊢ <;> omega

theorem len_advance_tail (hh : s.head < s.cfg.capacity) (ht : s.tail < s.cfg.capacity) (hne : s.head ≠ s.tail) :
    { s with tail := s.advance s.tail }.len + 1 = s.len := by
  have hlt := advance_lt (Nat.zero_lt_of_lt ht) s.tail
  rw [len_eq s hh ht, len_eq { s with tail := s.advance s.tail } hh hlt]
  dsimp only
  rw [advance_eq s _ ht]
  split_ifs <;> omega

theorem windowSlot_advance_tail (s : State) (k : Nat) :
    { s with tail := s.advance s.tail }.windowSlot k = s.windowSlot (k + 1) := by
  simp only [State.windowSlot, State.advance, Nat.mod_add_mod]
  congr 1
  omega

/-! ## The invariant -/

theorem len_eq_zero_of_empty (h : s.head = s.tail) : s.len = 0 := by simp [State.len, h]

/-- An empty ring has no occupied window to be written. -/
theorem written_of_empty (h : s.head = s.tail) : ∀ k < s.len, (Memory.read s.buf (s.windowSlot k)).isSome := by
  simp [len_eq_zero_of_empty h]

/-- The invariant is one of the storage and of the phase. -/
theorem State.Inv.of_storage_eq (h : s.Inv) (he : t.storage = s.storage) (hp : t.phaseOk = true) : t.Inv := by
  obtain ⟨hcfg, -, hhead, htail, hbuf, hmm⟩ := Storage.mk.inj he
  have hlen : t.len = s.len := by rw [State.len, State.len, hcfg, hhead, htail]
  have hwin (k : Nat) : t.windowSlot k = s.windowSlot k := by rw [State.windowSlot, State.windowSlot, hcfg, htail]
  constructor
  · rw [hcfg]; exact h.cfg_wf
  · rw [hcfg, hhead]; exact h.head_lt
  · rw [hcfg, htail]; exact h.tail_lt
  · rw [hbuf]; exact h.buf_wf
  · rw [hcfg, hbuf]; exact h.buf_lt
  · intro k hk
    rw [hbuf, hwin]
    exact h.written k (hlen ▸ hk)
  · rw [hcfg, hmm]; exact h.budget
  · exact hp

theorem State.Inv.store (h : s.Inv) (hf : s.full = false) (b : Byte) : (s.store b).Inv where
  cfg_wf := h.cfg_wf
  head_lt := advance_lt (Nat.zero_lt_of_lt h.head_lt) s.head
  tail_lt := h.tail_lt
  buf_wf := memWrite_wf s _ b h.buf_wf
  buf_lt := memory_write_lt _ _ _ b (Nat.mod_lt _ (Nat.zero_lt_of_lt h.head_lt)) h.buf_lt
  written := by
    intro k hk
    rw [len_store h.head_lt h.tail_lt hf] at hk
    change (Memory.read (Memory.write s.buf s.headSlot b) (s.windowSlot k)).isSome
    by_cases hslot : s.windowSlot k = s.headSlot
    · simp [hslot]
    · have hne : k ≠ s.len := by
        rintro rfl
        exact hslot (windowSlot_len h.head_lt h.tail_lt)
      rw [memory_read_write_other _ _ hslot]
      exact h.written k (by omega)
  budget := h.budget
  phase_ok := h.phase_ok

theorem State.Inv.advance_tail (h : s.Inv) (hne : s.head ≠ s.tail) : { s with tail := s.advance s.tail }.Inv where
  cfg_wf := h.cfg_wf
  head_lt := h.head_lt
  tail_lt := advance_lt (Nat.zero_lt_of_lt h.tail_lt) s.tail
  buf_wf := h.buf_wf
  buf_lt := h.buf_lt
  written := by
    intro k hk
    have hlen := len_advance_tail h.head_lt h.tail_lt hne
    rw [windowSlot_advance_tail]
    exact h.written (k + 1) (by omega)
  budget := h.budget
  phase_ok := h.phase_ok

theorem State.Inv.resetEmpty (h : s.Inv) : s.resetEmpty.Inv where
  cfg_wf := h.cfg_wf
  head_lt := Nat.zero_lt_of_lt h.head_lt
  tail_lt := Nat.zero_lt_of_lt h.tail_lt
  buf_wf := h.buf_wf
  buf_lt := h.buf_lt
  written := written_of_empty rfl
  budget := h.budget
  phase_ok := h.phase_ok

/-- In IDLE the overrun flag is free. -/
theorem State.Inv.overrun (h : s.Inv) : ({ s with ovr := true }.fail .overrun).Inv where
  cfg_wf := h.cfg_wf
  head_lt := h.head_lt
  tail_lt := h.tail_lt
  buf_wf := h.buf_wf
  buf_lt := h.buf_lt
  written := h.written
  budget := h.budget
  phase_ok := phaseOk_of_idle rfl

theorem argMisses_lt (hp : s.phase = .cfg) (h : s.phaseOk = true) : argMisses s.arg < 2 ^ s.cfg.missW := by
  obtain ⟨-, baud, mm, harg, hmm⟩ := (phaseOk_cfg_iff hp).1 h
  rwa [harg]

/-- The ring of a session just opened is empty, and its budget is that of the request. -/
theorem State.Inv.openEffect (h : s.Inv) (hp : s.phase = .cfg) : ((s.openEffect (argMisses s.arg)).done .ok).Inv where
  cfg_wf := h.cfg_wf
  head_lt := Nat.zero_lt_of_lt h.head_lt
  tail_lt := Nat.zero_lt_of_lt h.tail_lt
  buf_wf := rfl
  buf_lt := nofun
  written := written_of_empty rfl
  budget := argMisses_lt hp h.phase_ok
  phase_ok := phaseOk_of_idle rfl

/-- A change of the storage keeps the invariant where the new phase has what it implies. -/
theorem State.Inv.of_storageChange (h : s.Inv) (hp : t.phaseOk = true) (hc : StorageChange s t) : t.Inv := by
  cases hc with
  | kept he => exact h.of_storage_eq he hp
  | stored b hfull he => exact (h.store hfull b).of_storage_eq he hp
  | popped hne he => exact (h.advance_tail hne).of_storage_eq he hp
  | emptied he => exact h.resetEmpty.of_storage_eq he hp
  | overran _ _ _ he => exact h.overrun.of_storage_eq he hp
  | opened hcfg _ _ he => exact (h.openEffect hcfg).of_storage_eq he hp

/-- A reset gives the invariant to any block of admissible parameters (70_reset R185). -/
theorem applyReset_inv (h : s.cfg.WF) : s.applyReset.Inv where
  cfg_wf := h
  head_lt := Nat.zero_lt_of_lt h.1
  tail_lt := Nat.zero_lt_of_lt h.1
  buf_wf := reset_buf_wf
  buf_lt := nofun
  written := written_of_empty rfl
  budget := Nat.two_pow_pos _
  phase_ok := rfl

end

/-- Settles O36: what the step does to the storage and what its new phase implies make up the invariant. -/
theorem stepKeepsTheInvariant : Obligations.StepKeepsTheInvariant := by
  intro s t hinv h
  cases hr : s.rst with
  | true =>
    obtain rfl : s.applyReset = t := by simpa [step, hr] using h
    exact applyReset_inv hinv.cfg_wf
  | false =>
    have hm := moves_of_step hr h
    exact hinv.of_storageChange (phaseOk_of_moves hinv.phase_ok hm) (storageChange_of_moves hm)

/-- Settles O41: of the changes of the storage only an overrun and a successful `open` write `ovr`. -/
theorem overrunFlagIsSticky : Obligations.OverrunFlagIsSticky := by
  intro s t hr h
  cases storageChange_of_moves (moves_of_step hr h) with
  | kept he | stored _ _ he | popped _ he | emptied he =>
    have hovr : t.ovr = s.ovr := congrArg Storage.ovr he
    exact ⟨fun hv => .inl (hovr.trans hv), fun hv hv' => by simp [hovr, hv] at hv'⟩
  | overran hfull hp hd he =>
    obtain ⟨-, hovr, hhead, htail, hbuf, -⟩ := Storage.mk.inj he
    exact ⟨fun _ => .inl hovr, fun _ _ => ⟨hfull, hbuf, hhead, htail, hp, hd⟩⟩
  | opened hp ho hd he =>
    have hovr : t.ovr = false := congrArg Storage.ovr he
    exact ⟨fun _ => .inr ⟨hp, ho, hd⟩, fun _ hv => by simp [hovr] at hv⟩

/-- Settles O42: of the changes of the storage only a successful `open` writes the budget. -/
theorem budgetIsConstantInASession : Obligations.BudgetIsConstantInASession := by
  intro s t hr h hne
  cases storageChange_of_moves (moves_of_step hr h) with
  | kept he | stored _ _ he | popped _ he | emptied he | overran _ _ _ he =>
    exact absurd (congrArg Storage.maxMisses he) hne
  | opened hp ho hd he => exact ⟨hp, ho, congrArg Storage.maxMisses he, hd⟩

/-- Settles O37: the state after reset is the reset of a block with the default parameters. -/
theorem resetHasTheInvariant : Obligations.ResetHasTheInvariant :=
  applyReset_inv (s := State.reset) (by decide)

end Sys2Proof.Machine

/-! # The link as a memory (20_memory R30 to R32, R42 to R44)

An instruction does nothing unless the phase is the one that runs it (`exec_cases`). Where it is run, a command row is
its exchange and the row REPLY the same exchange with a given reply, so that the two agree; and what it writes in the
ring is what the phase's move writes. -/

namespace Sys2Proof.Machine

/-! ## The order of bytes on the link -/

theorem wordOfLink_high (b₁ b₂ : Byte) : (wordOfLink b₁ b₂).extractLsb' 8 8 = b₁ := BitVec.extractLsb'_append_eq_left

theorem wordOfLink_low (b₁ b₂ : Byte) : (wordOfLink b₁ b₂).extractLsb' 0 8 = b₂ := BitVec.extractLsb'_append_eq_right

/-- The two bytes of a word, put together again, are the word. -/
theorem wordOfLink_of_halves (w : Word) : wordOfLink (w.extractLsb' 8 8) (w.extractLsb' 0 8) = w :=
  (BitVec.extractLsb'_append_extractLsb'_eq_extractLsb' (by rfl)).trans BitVec.extractLsb'_eq_self

/-- Settles O5: the two byte orders are inverse to each other. -/
theorem linkCarriesTheHighByteFirst : Obligations.LinkCarriesTheHighByteFirst :=
  ⟨fun _ => rfl, fun b₁ b₂ => ⟨wordOfLink_high b₁ b₂, wordOfLink_low b₁ b₂⟩, wordOfLink_of_halves⟩

section
variable {s t : State} {i : Instr}

/-! ## An instruction outside its phase -/

/-- A host operation is the acceptance of a request (46_sequencer R136). -/
theorem exec_eq_accept (hi : i.format = .hop) : ∃ request serve, exec i s = .next (s.accept request serve) := by
  cases i with
  | readData | readConf | writeData _ | writeConf _ | reply _ => cases hi
  | _ => exact ⟨_, _, rfl⟩

theorem exec_hop_of_ne_idle (hp : s.phase ≠ .idle) (hi : i.format = .hop) : exec i s = .next s := by
  obtain ⟨request, serve, h⟩ := exec_eq_accept (s := s) hi
  rw [h, State.accept, if_neg hp]

/-- A command word the phase does not send has no effect (log 14). -/
theorem exec_cw_of_ne_nextCommand (hi : i.format = .cw) (hc : s.nextCommand ≠ some i) : exec i s = .next s := by
  cases i with
  | readData | readConf | writeData _ | writeConf _ => exact congrArg _ (if_neg hc)
  | _ => cases hi

/-- Without an exchange there is no reply (log 15). -/
theorem exec_reply_of_no_command (r : Word) (hc : s.nextCommand = none) : exec (.reply r) s = .next s := by
  simp [exec, execReply, hc]

/-! ## An instruction in its phase -/

section
variable {w : Word} (hi : s.nextCommand = some i) (hw : commandWord s.cfg i = some w)
include hi hw

/-- In `CFG` the handle is opened before the exchange (46_sequencer R137; log 8). -/
theorem exec_command_of_cfg (hp : s.phase = .cfg) :
    exec i s = .next (if s.handleOk then s.handleAsked.exchange w else s.handleAsked.fail .ioError) := by
  obtain rfl : .writeConf (argBaud s.arg) = i := by simpa [State.nextCommand, hp] using hi
  cases hw
  exact congrArg _ (if_pos hi)

/-- In any other phase the command row is its exchange (46_sequencer R135). -/
theorem exec_command_of_ne_cfg (hp : s.phase ≠ .cfg) : exec i s = .next (s.exchange w) := by
  cases h : s.phase with
  | idle => simp [State.nextCommand, h] at hi
  | cfg => exact absurd h hp
  | drain | step =>
    obtain rfl : i = .readData := by simp_all [State.nextCommand]
    cases hw
    exact congrArg _ (if_pos hi)
  | poll =>
    obtain rfl : .readConf = i := by simpa [State.nextCommand, h] using hi
    cases hw
    exact congrArg _ (if_pos hi)
  | send =>
    obtain rfl : .writeData s.txb = i := by simpa [State.nextCommand, h] using hi
    cases hw
    exact congrArg _ (if_pos hi)

theorem exec_reply_of_cfg (r : Word) (hp : s.phase = .cfg) :
    exec (.reply r) s = .next (s.handleAsked.exchangeReply w r) := by
  simp [exec, execReply, hi, hw, hp]

theorem exec_reply_of_ne_cfg (r : Word) (hp : s.phase ≠ .cfg) :
    exec (.reply r) s = .next (s.exchangeReply w r) := by
  simp [exec, execReply, hi, hw, hp]

end

/-- The environment's answer does not depend on the handle. -/
theorem handleAsked_answer (s : State) (w : Word) : s.handleAsked.answer w = s.answer w := rfl

theorem exchange_of_word {w r : Word} (h : s.answer w = .word r) : s.exchange w = s.exchangeReply w r := by
  rw [State.exchange, h, State.exchangeReply]

theorem exchange_of_fail {w : Word} (h : s.answer w = .fail) :
    s.exchange w = (s.exchanged w .fail).fail .ioError := by
  rw [State.exchange, h, State.onAnswer]

/-- In the status poll a reply moves `phase` alone, `R` before `T` (46_sequencer R140). -/
theorem onReply_of_poll (hp : s.phase = .poll) (r : Word) :
    s.onReply r = { s with
      phase := if r.getLsbD s.cfg.rBit then .step else if r.getLsbD s.cfg.tBit then .send else .poll } := by
  have hR : s.replyR r = r.getLsbD s.cfg.rBit := rfl
  have hT : s.replyT r = r.getLsbD s.cfg.tBit := rfl
  simp only [State.onReply, hp, State.onReplyPoll, ← hR, ← hT]
  split_ifs <;> rfl

end

/-- Settles O18: a request is accepted in IDLE only. -/
theorem requestDuringAnOperationHasNoEffect : Obligations.RequestDuringAnOperationHasNoEffect :=
  fun _ _ hp hi => exec_hop_of_ne_idle hp hi

/-- Settles O27: in every phase the command row is its exchange, in `CFG` after the handle operation. -/
theorem failedExchangeEndsWithIoError : Obligations.FailedExchangeEndsWithIoError := by
  intro s i w hi hw ha
  constructor
  · intro hp
    rw [exec_command_of_ne_cfg hi hw hp, exchange_of_fail ha]
    rfl
  · intro hp hok
    rw [exec_command_of_cfg hi hw hp, if_pos hok, exchange_of_fail ((handleAsked_answer s w).trans ha)]
    rfl

/-- Settles O26: where the environment answers with `r`, the exchange of the command row is the exchange with reply
`r`. -/
theorem replyHasTheEffectOfItsExchange : Obligations.ReplyHasTheEffectOfItsExchange := by
  constructor
  · intro s i w r hi hw ha hok
    by_cases hp : s.phase = .cfg
    · rw [exec_reply_of_cfg hi hw r hp, exec_command_of_cfg hi hw hp, if_pos (hok hp),
        exchange_of_word ((handleAsked_answer s w).trans ha)]
    · rw [exec_reply_of_ne_cfg hi hw r hp, exec_command_of_ne_cfg hi hw hp, exchange_of_word ha]
  · intro s r hp
    have hi : s.nextCommand = some .readConf := by simp [State.nextCommand, hp]
    rw [exec_reply_of_ne_cfg hi rfl r (by simp [hp]), State.exchangeReply, State.onAnswer]
    exact congrArg _ (onReply_of_poll (s := s.exchanged _ _) hp r)

/-! ## What an instruction writes in the ring -/

section
variable {s t : State} {i : Instr}

/-- A command row the phase sends is the phase's move. -/
theorem moves_of_exec_command (hi : s.nextCommand = some i) (h : exec i s = .next t) : Moves s t := by
  obtain ⟨w, hw⟩ := commandWord_of_nextCommand hi
  have hc : s.nextCommand ≠ none := by simp [hi]
  by_cases hp : s.phase = .cfg
  · cases (exec_command_of_cfg hi hw hp).symm.trans h
    split
    · exact moves_exchange hc s.answers s.wire s.handles.tail (s.handleOps + 1) w
    · exact .failed (answers := s.answers) (wire := s.wire) (handles := s.handles.tail) (handleOps := s.handleOps + 1)
  · cases (exec_command_of_ne_cfg hi hw hp).symm.trans h
    exact moves_exchange hc s.answers s.wire s.handles s.handleOps w

/-- A reply is nothing without an exchange, and the phase's move with one. -/
theorem exec_reply_cases {r : Word} (h : exec (.reply r) s = .next t) : t = s ∨ Moves s t := by
  cases hi : s.nextCommand with
  | none =>
    cases (exec_reply_of_no_command r hi).symm.trans h
    exact .inl rfl
  | some i =>
    obtain ⟨w, hw⟩ := commandWord_of_nextCommand hi
    have hc : s.nextCommand ≠ none := by simp [hi]
    right
    by_cases hp : s.phase = .cfg
    · cases (exec_reply_of_cfg hi hw r hp).symm.trans h
      exact .replied (answers := s.answers.tail) (wire := s.wire ++ [⟨w, .word r⟩]) (handles := s.handles.tail)
        (handleOps := s.handleOps + 1) hc
    · cases (exec_reply_of_ne_cfg hi hw r hp).symm.trans h
      exact .replied (answers := s.answers.tail) (wire := s.wire ++ [⟨w, .word r⟩]) (handles := s.handles)
        (handleOps := s.handleOps) hc

/-- An instruction has no effect, or it is the phase's move: a request in IDLE, the command the phase sends, or the
reply to it. -/
theorem exec_cases (h : exec i s = .next t) :
    t = s ∨ Moves s t ∧ (s.phase = .idle ∨ s.nextCommand = some i ∨ ∃ r, i = .reply r) := by
  cases hf : i.format with
  | hop =>
    by_cases hp : s.phase = .idle
    · exact .inr ⟨.serves (rest := s.requests) hp h, .inl hp⟩
    · cases (exec_hop_of_ne_idle hp hf).symm.trans h
      exact .inl rfl
  | cw =>
    by_cases hi : s.nextCommand = some i
    · exact .inr ⟨moves_of_exec_command hi h, .inr (.inl hi)⟩
    · cases (exec_cw_of_ne_nextCommand hf hi).symm.trans h
      exact .inl rfl
  | rw =>
    obtain ⟨r, rfl⟩ : ∃ r, i = .reply r := by cases i <;> simp [Instr.format] at hf ⊢
    exact (exec_reply_cases h).imp_right fun hm => ⟨hm, .inr (.inr ⟨r, rfl⟩)⟩

/-- A phase that sends neither read-data nor write-data is the status poll or `CFG`. -/
theorem phase_of_nextCommand (hi : s.nextCommand = some i) (hrd : i ≠ .readData) (hwd : ∀ d, i ≠ .writeData d) :
    s.phase = .poll ∨ s.phase = .cfg ∧ ∃ baud, i = .writeConf baud := by
  cases hp : s.phase with
  | poll => exact .inl rfl
  | cfg => exact .inr ⟨rfl, argBaud s.arg, by simpa [State.nextCommand, hp, eq_comm] using hi⟩
  | idle => simp [State.nextCommand, hp] at hi
  | drain => exact absurd (by simpa [State.nextCommand, hp, eq_comm] using hi : _ ∧ i = .readData).2 hrd
  | step => exact absurd (by simpa [State.nextCommand, hp, eq_comm] using hi) hrd
  | send => exact absurd (by simpa [State.nextCommand, hp, eq_comm] using hi) (hwd s.txb)

/-- Of the changes of the storage, a store writes slot `head` and a successful `open` frees the ring; no other touches a
slot. -/
theorem StorageChange.read_eq (h : StorageChange s t) (hopen : ¬(s.phase = .cfg ∧ t.isOpen = true)) {a : Nat}
    (ha : a ≠ s.headSlot) : Memory.read t.buf a = Memory.read s.buf a := by
  cases h with
  | kept he | popped _ he | emptied he | overran _ _ _ he => rw [show t.buf = s.buf from congrArg Storage.buf he]
  | stored b _ he =>
    rw [show t.buf = (s.store b).buf from congrArg Storage.buf he]
    exact memory_read_write_other _ _ ha
  | opened hp ho _ _ => exact absurd ⟨hp, ho⟩ hopen

/-- IDLE, the status poll and a failed `open` write no slot at all. -/
theorem buf_eq_of_moves (h : Moves s t)
    (hp : s.phase = .idle ∨ s.phase = .poll ∨ s.phase = .cfg ∧ t.isOpen = false) : t.buf = s.buf := by
  cases h with
  | waits => rfl
  | @serves i rest _ hidle ht =>
    obtain ⟨hs, -⟩ := served_of_exec (s := { s with requests := rest }) hidle ht
    exact congrArg Storage.buf hs
  | failed => rfl
  | drained hdrain => simp [hdrain] at hp
  | @replied answers wire handles handleOps r hc =>
    rcases hp with hidle | hpoll | ⟨hcfg, ho⟩
    · exact absurd (by simp [State.nextCommand, hidle]) hc
    · rw [onReply_of_poll (s := s.withPorts answers wire handles handleOps) hpoll]
      rfl
    · simp [State.onReply, State.withPorts, hcfg, State.onReplyCfg] at ho

end

/-- Settles O43: an instruction and a step are the phase's move or nothing, and a move writes slot `head` at most. -/
theorem onlyTheSlotAtHeadIsWritten : Obligations.OnlyTheSlotAtHeadIsWritten := by
  refine ⟨fun i s t h hopen a ha => ?_, fun i s t h hrd hwd hrep hopen a => ?_, fun s t hr h hopen a ha => ?_⟩
  · rcases exec_cases h with rfl | ⟨hm, -⟩
    · rfl
    · exact (storageChange_of_moves hm).read_eq hopen ha
  · rcases exec_cases h with rfl | ⟨hm, hidle | hi | ⟨r, hr⟩⟩
    · rfl
    · rw [buf_eq_of_moves hm (.inl hidle)]
    · refine congrArg (Memory.read · a) (buf_eq_of_moves hm (.inr ?_))
      exact (phase_of_nextCommand hi hrd hwd).imp_right fun ⟨hp, hb⟩ =>
        ⟨hp, Bool.eq_false_iff.2 fun ho => hopen ⟨hb, ho⟩⟩
    · exact absurd hr (hrep r)
  · have hm := moves_of_step hr h
    rcases ha with ha | hp
    · exact (storageChange_of_moves hm).read_eq hopen ha
    · rw [buf_eq_of_moves hm (hp.imp_right .inl)]

end Sys2Proof.Machine

/-! # The encoding of words and requests (30_encoding R50 to R65)

A command word is told by its tag (O59), and its payload gives back its operand, so that the decoder is a left inverse
of the encoder on command words; a host request is told by its select code, and its operands are read back byte by
byte. The round trip of O1 is the two together, and the produced words are distinct (O2) since each decodes to its
row. -/

namespace Sys2Proof.Machine

/-! ## The tag of a command word -/

/-- Two bits have four values, so four distinct tags are all of them (00_scope R6). -/
theorem mem_of_nodup_tags {a b c d : BitVec 2} (h : [a, b, c, d].Nodup) (x : BitVec 2) : x ∈ [a, b, c, d] := by
  have huniv : [a, b, c, d].toFinset = Finset.univ := Finset.eq_univ_of_card _ (List.toFinset_card_of_nodup h)
  exact List.mem_toFinset.1 (huniv ▸ Finset.mem_univ x)

/-- The four command words. -/
def commandKinds : List CommandKind := [.readData, .readConf, .writeData, .writeConf]

theorem mem_commandKinds (k : CommandKind) : k ∈ commandKinds := by
  cases k <;> decide

/-- The tag of each of the four command words. -/
def tagOf (cfg : Config) : CommandKind → BitVec 2
  | .readData => cfg.tagReadData
  | .readConf => cfg.tagReadConf
  | .writeData => cfg.tagWriteData
  | .writeConf => cfg.tagWriteConf

section
variable {cfg : Config} {i : Instr} {w : Word}

theorem tags_nodup (h : cfg.WF) : (commandKinds.map (tagOf cfg)).Nodup := by
  obtain ⟨-, -, -, -, htags, -⟩ := h
  exact htags

theorem tagOf_injective (h : cfg.WF) : Function.Injective (tagOf cfg) := fun k k' hk =>
  List.inj_on_of_nodup_map (tags_nodup h) (mem_commandKinds k) (mem_commandKinds k') hk

/-- `commandKind` finds the command whose tag the word has. -/
theorem tagOf_commandKind (h : cfg.WF) (w : Word) : tagOf cfg (commandKind cfg w) = w.extractLsb' 14 2 := by
  have htag := mem_of_nodup_tags (tags_nodup h) (w.extractLsb' 14 2)
  unfold commandKind
  split_ifs <;> simp_all [tagOf]

theorem commandKind_eq_iff (h : cfg.WF) (w : Word) (k : CommandKind) :
    commandKind cfg w = k ↔ w.extractLsb' 14 2 = tagOf cfg k := by
  rw [← tagOf_commandKind h, (tagOf_injective h).eq_iff]

theorem commandKind_commandOf (h : cfg.WF) (k : CommandKind) (payload : BitVec 14) :
    commandKind cfg (commandOf (tagOf cfg k) payload) = k :=
  (commandKind_eq_iff h _ k).2 (commandOf_tag _ _)

/-- The payload of each command row (30_encoding R53 to R56). -/
def payloadOf (cfg : Config) : Instr → BitVec 14
  | .writeData d => d.setWidth 14
  | .writeConf baud => openPayload cfg baud
  | _ => 0

/-- A command word is the tag of its command with the payload of its row. -/
theorem commandWord_eq_some_iff :
    commandWord cfg i = some w ↔ ∃ k, i.commandKind = some k ∧ w = commandOf (tagOf cfg k) (payloadOf cfg i) := by
  cases i with
  | readData | readConf | writeData _ | writeConf _ =>
    refine ⟨fun hw => ⟨_, rfl, (Option.some.inj hw).symm⟩, fun ⟨k, hk, hw⟩ => ?_⟩
    cases hk
    exact congrArg some hw.symm
  | _ => exact ⟨nofun, nofun⟩

/-- The word of a command row is recognised as that row. -/
theorem commandKind_of_commandWord (h : cfg.WF) (hw : commandWord cfg i = some w) :
    i.commandKind = some (commandKind cfg w) := by
  obtain ⟨k, hk, rfl⟩ := commandWord_eq_some_iff.1 hw
  rw [commandKind_commandOf h, hk]

end

/-- Settles O59: the tags are distinct, and there is no fifth. -/
theorem commandsAreRecognisedByTheirTagAlone : Obligations.CommandsAreRecognisedByTheirTagAlone := by
  have hstd : Config.standard.WF := by decide
  refine ⟨fun cfg w h => ?_, fun cfg i w h hw => commandKind_of_commandWord h hw,
    fun cfg bits h => commandKind_commandOf h .writeConf bits, fun payload => ?_⟩
  · exact ⟨commandKind_eq_iff h w .readData, commandKind_eq_iff h w .readConf, commandKind_eq_iff h w .writeData,
      commandKind_eq_iff h w .writeConf⟩
  · exact ⟨commandKind_commandOf hstd .readData payload, commandKind_commandOf hstd .readConf payload,
      commandKind_commandOf hstd .writeData payload, commandKind_commandOf hstd .writeConf payload⟩

/-! ## The payload of a command word -/

section
variable {cfg : Config} {i : Instr} {w : Word}

/-- The bits of a 4-bit field placed at bit `lo` of a payload. -/
theorem getElem_field (x : BitVec 4) (lo : Nat) {k : Nat} (hk : k < 14) :
    (x.setWidth 14 <<< lo)[k] = (decide (lo ≤ k) && x.getLsbD (k - lo)) := by
  by_cases hlo : lo ≤ k <;> simp [BitVec.getElem_shiftLeft, hlo]

/-- The bits of the payload of `open`: `RM`, and the baud code from `BAUD_LO` on (30_encoding R53). -/
theorem getElem_openPayload (cfg : Config) (baud : BitVec 4) {k : Nat} (hk : k < 14) :
    (openPayload cfg baud)[k] =
      (decide (k = cfg.rmBit) || (decide (cfg.baudLo ≤ k) && baud.getLsbD (k - cfg.baudLo))) := by
  rw [openPayload, BitVec.getElem_or, ← BitVec.twoPow_eq, BitVec.getElem_twoPow, getElem_field]

/-- The baud field of the payload is the baud code. -/
theorem openPayload_baud (h : cfg.WF) (baud : BitVec 4) :
    (openPayload cfg baud).extractLsb' cfg.baudLo 4 = baud := by
  obtain ⟨-, -, -, -, -, -, -, -, -, hlo, hapart⟩ := h
  ext k hk
  have hne : cfg.baudLo + k ≠ cfg.rmBit := by omega
  rw [BitVec.getElem_extractLsb', BitVec.getLsbD_eq_getElem (by omega), getElem_openPayload]
  simp [hne, BitVec.getLsbD_eq_getElem hk]

/-- Outside the baud field the payload has `RM` alone. -/
theorem openPayload_rest (h : cfg.WF) (baud : BitVec 4) :
    openPayload cfg baud &&& ~~~(0b1111#14 <<< cfg.baudLo) = 1#14 <<< cfg.rmBit := by
  obtain ⟨-, -, -, -, -, -, -, -, -, -, hapart⟩ := h
  have hfield : 0b1111#14 = (BitVec.allOnes 4).setWidth 14 := rfl
  ext k hk
  rw [BitVec.getElem_and, BitVec.getElem_not, hfield, getElem_field, getElem_openPayload, ← BitVec.twoPow_eq,
    BitVec.getElem_twoPow, BitVec.getLsbD_allOnes]
  by_cases hrm : k = cfg.rmBit
  · simp [hrm]
    omega
  · by_cases hin : k - cfg.baudLo < 4
    · simp +contextual [hrm, hin]
    · simp [hrm, BitVec.getLsbD_of_ge baud _ (Nat.not_lt.1 hin)]

/-- A field in a wider word of its own leaves the bits above it 0 (30_encoding R55). -/
theorem setWidth_parts {n m : Nat} (h : n ≤ m) (x : BitVec n) (k : Nat) :
    (x.setWidth m).extractLsb' n k = 0 ∧ (x.setWidth m).extractLsb' 0 n = x := by
  refine ⟨?_, (BitVec.extractLsb'_setWidth_of_le (by omega)).trans BitVec.extractLsb'_eq_self⟩
  ext j hj
  simp

/-- A command word gives back its row: its tag the command, its payload the operand. -/
theorem decodeCommand_of_commandWord (h : cfg.WF) (hw : commandWord cfg i = some w) : decodeCommand cfg w = .ok i := by
  obtain ⟨k, hk, rfl⟩ := commandWord_eq_some_iff.1 hw
  simp only [decodeCommand, commandKind_commandOf h, commandOf_payload]
  cases i with
  | readData | readConf => cases hk; rfl
  | writeData d =>
    cases hk
    obtain ⟨hhigh, hlow⟩ := setWidth_parts (m := 14) (by decide) d 6
    simp only [payloadOf, hhigh, hlow, if_true]
  | writeConf baud =>
    cases hk
    simp only [payloadOf, openPayload_rest h, openPayload_baud h, if_true]
  | _ => cases hk

end

/-! ## The operands of a request -/

theorem foldl_bytesOfNat (k n acc : Nat) :
    (bytesOfNat k n).foldl (fun m b => m * 256 + b.toNat) acc = acc * 256 ^ k + n % 256 ^ k := by
  induction k generalizing acc with
  | zero => simp [bytesOfNat, Nat.mod_one]
  | succ k ih =>
    rw [bytesOfNat, List.foldl_cons, ih, BitVec.toNat_ofNat, Nat.mod_pow_succ (b := 256), show 2 ^ 8 = 256 from rfl]
    ring

/-- A number that fits `k` bytes is the number they spell. -/
theorem natOfBytes_bytesOfNat {k n : Nat} (h : n < 256 ^ k) : natOfBytes (bytesOfNat k n) = n := by
  rw [natOfBytes, foldl_bytesOfNat, Nat.zero_mul, Nat.zero_add, Nat.mod_eq_of_lt h]

theorem takeBytes_append {k : Nat} {front : List Byte} (h : front.length = k) (rest : List Byte) :
    takeBytes k (front ++ rest) = .ok (front, rest) := by
  subst h
  simp [takeBytes]

/-- The bytes of an operand of `w` bits hold `w` bits. -/
theorem two_pow_le_operandBytes (w : Nat) : 2 ^ w ≤ 256 ^ operandBytes w := by
  have h256 : (256 : Nat) = 2 ^ 8 := rfl
  rw [h256, ← pow_mul]
  exact Nat.pow_le_pow_right (by decide) (by unfold operandBytes; omega)

/-- An operand is read back from its bytes. -/
theorem takeOperand_bytesOfNat {w n : Nat} (h : n < 2 ^ w) (rest : List Byte) :
    takeOperand w (bytesOfNat (operandBytes w) n ++ rest) = .ok (n, rest) := by
  rw [takeOperand, takeBytes_append (Laws.bytesOfNat_length _ _)]
  simp only [natOfBytes_bytesOfNat (h.trans_le (two_pow_le_operandBytes w)), if_pos h]

/-- A two's complement pattern of `w` bits fits an operand of `w` bits. -/
theorem pattern_lt (w : Nat) (len : Int) : (len % (2 ^ w : Nat)).toNat < 2 ^ w := by
  have hpos : (0 : Int) < (2 ^ w : Nat) := by positivity
  exact (Int.toNat_lt (Int.emod_nonneg len hpos.ne')).2 (Int.emod_lt_of_pos len hpos)

/-- The two's complement pattern of a `length` in range is read back as that `length` (44_block_api R117). -/
theorem signExtend_pattern {w : Nat} {len : Int} (hw : 1 ≤ w) (hlo : -(2 ^ (w - 1) : Int) ≤ len)
    (hhi : len < (2 ^ (w - 1) : Int)) : signExtend w (len % (2 ^ w : Nat)).toNat = len := by
  have hpos : (0 : Int) < (2 ^ w : Nat) := by positivity
  have hdouble : ((2 ^ w : Nat) : Int) = 2 * 2 ^ (w - 1) := by
    rw [← pow_succ', Nat.sub_add_cancel hw, Nat.cast_pow, Nat.cast_ofNat]
  rw [signExtend, Int.toNat_of_nonneg (Int.emod_nonneg _ hpos.ne'), Int.emod_bmod]
  exact Int.bmod_eq_of_le_mul_two (by omega) (by omega)

/-! ## The select code -/

/-- The select codes from `0x8` on are those of the unassigned row (30_encoding R62). -/
theorem eight_le_iff_exists_low (op : BitVec 4) : 8 ≤ op.toNat ↔ ∃ low : BitVec 3, op = 1#1 ++ low := by
  revert op
  decide

/-- An unassigned code names its three low bits, and takes no operand (log 17). -/
theorem decodeOperands_unassigned (cfg : Config) (low : BitVec 3) (bytes : List Byte) :
    decodeOperands cfg (1#1 ++ low) bytes = .ok (.hopUnassigned low, bytes) := by
  have hlow : (1#1 ++ low).extractLsb' 0 3 = low := BitVec.extractLsb'_append_eq_right
  have hcode : 8 ≤ (1#1 ++ low).toNat := (eight_le_iff_exists_low _).2 ⟨low, rfl⟩
  unfold decodeOperands
  split
  case h_9 => rw [hlow]
  all_goals omega

theorem decodeOperands_openSession {cfg : Config} {mm : Nat} {bytes rest : List Byte} (baud : BitVec 4)
    (h : takeOperand cfg.missW bytes = .ok (mm, rest)) :
    decodeOperands cfg 0x0 (baud.setWidth 8 :: bytes) = .ok (.openSession baud mm, rest) := by
  obtain ⟨hhigh, hlow⟩ := setWidth_parts (m := 8) (by decide) baud 4
  simp [decodeOperands, hhigh, hlow, h]

theorem decodeOperands_write {cfg : Config} {bytes rest front rest' : List Byte} {n : Nat}
    (h : takeOperand 32 bytes = .ok (n, rest)) (hn : takeBytes n rest = .ok (front, rest')) :
    decodeOperands cfg 0x6 bytes = .ok (.write front, rest') := by
  simp [decodeOperands, h, hn]

/-- Bytes that follow the code of a `read` are its operand (44_block_api R118 has the case without any). -/
theorem decodeOperands_read {cfg : Config} {bytes rest : List Byte} {n : Nat} (hne : bytes ≠ [])
    (h : takeOperand cfg.lenW bytes = .ok (n, rest)) :
    decodeOperands cfg 0x7 bytes = .ok (.read (signExtend cfg.lenW n), rest) := by
  cases bytes with
  | nil => exact absurd rfl hne
  | cons b bytes => simp [decodeOperands, h]

/-- The operands of a request are read back by its select code (30_encoding R61). -/
theorem decodeOperands_encodeOperands {cfg : Config} {i : Instr} {op : BitVec 4} (h : cfg.WF) (hi : i.WF cfg)
    (hop : selectCode i = some op) (rest : List Byte) :
    decodeOperands cfg op (encodeOperands cfg i ++ rest) = .ok (i, rest) := by
  obtain ⟨-, -, -, hlenW, -⟩ := h
  cases i with
  | readData | readConf | writeData _ | writeConf _ | reply _ => cases hop
  | closeSession | putByte _ | getByte | available | clear => cases hop; rfl
  | hopUnassigned low => cases hop; exact decodeOperands_unassigned cfg low rest
  | openSession baud mm =>
    cases hop
    have hmm : mm < 2 ^ cfg.missW := by simpa [Instr.WF, Instr.formError] using hi
    exact decodeOperands_openSession baud (takeOperand_bytesOfNat hmm rest)
  | write bytes =>
    cases hop
    have hlen : bytes.length < 2 ^ 32 := by simpa [Instr.WF, Instr.formError] using hi
    rw [encodeOperands, List.append_assoc]
    exact decodeOperands_write (takeOperand_bytesOfNat hlen _) (takeBytes_append rfl rest)
  | read len =>
    cases hop
    obtain ⟨hlo, hhi⟩ : -(2 ^ (cfg.lenW - 1) : Int) ≤ len ∧ len < (2 ^ (cfg.lenW - 1) : Int) := by
      simpa [Instr.WF, Instr.formError] using hi
    have hlenW' : 1 ≤ cfg.lenW := by omega
    have hne : encodeOperands cfg (.read len) ++ rest ≠ [] := by
      have hsize : 1 ≤ operandBytes cfg.lenW := by unfold operandBytes; omega
      exact List.append_ne_nil_of_left_ne_nil
        (List.ne_nil_of_length_pos (hsize.trans_eq (Laws.bytesOfNat_length _ _).symm)) rest
    rw [decodeOperands_read hne (takeOperand_bytesOfNat (pattern_lt _ len) rest), signExtend_pattern hlenW' hlo hhi]

/-! ## The round trip -/

section
variable {cfg : Config} {i : Instr} {w : Word} {op : BitVec 4}

theorem exists_commandWord (cfg : Config) (hi : i.format = .cw) : ∃ w, commandWord cfg i = some w := by
  cases i with
  | readData | readConf | writeData _ | writeConf _ => exact ⟨_, rfl⟩
  | _ => cases hi

theorem exists_selectCode (hi : i.format = .hop) : ∃ op, selectCode i = some op := by
  cases i with
  | readData | readConf | writeData _ | writeConf _ | reply _ => cases hi
  | _ => exact ⟨_, rfl⟩

/-- A command row is encoded as its word, high byte first (20_memory R32). -/
theorem encode_of_commandWord (hw : commandWord cfg i = some w) : encode cfg i = linkBytes w := by
  cases i with
  | readData | readConf | writeData _ | writeConf _ => cases hw; rfl
  | _ => cases hw

/-- A request is encoded as its select code and its operands. -/
theorem encode_of_selectCode (hop : selectCode i = some op) :
    encode cfg i = op.setWidth 8 :: encodeOperands cfg i := by
  cases i with
  | readData | readConf | writeData _ | writeConf _ | reply _ => cases hop
  | _ => cases hop; rfl

theorem decode_cw (w : Word) (rest : List Byte) (hw : decodeCommand cfg w = .ok i) :
    decode cfg .cw (linkBytes w ++ rest) = .ok (i, rest) := by
  simp [linkBytes, decode, wordOfLink_of_halves, hw]

theorem decode_rw (cfg : Config) (r : Word) (rest : List Byte) :
    decode cfg .rw (linkBytes r ++ rest) = .ok (.reply r, rest) := by
  simp [linkBytes, decode, wordOfLink_of_halves]

theorem decode_hop (cfg : Config) (op : BitVec 4) (bytes : List Byte) :
    decode cfg .hop (op.setWidth 8 :: bytes) = decodeOperands cfg op bytes := by
  obtain ⟨hhigh, hlow⟩ := setWidth_parts (m := 8) (by decide) op 4
  simp [decode, hhigh, hlow]

end

/-- Settles O1: a command word by its tag and payload, a reply as it is, a request by its code and operands. -/
theorem decodeReadsBackWhatEncodeWrites : Obligations.DecodeReadsBackWhatEncodeWrites := by
  intro cfg i rest h hi
  cases hf : i.format with
  | cw =>
    obtain ⟨w, hw⟩ := exists_commandWord cfg hf
    rw [encode_of_commandWord hw, decode_cw w rest (decodeCommand_of_commandWord h hw)]
  | rw =>
    obtain ⟨r, rfl⟩ : ∃ r, i = .reply r := by cases i <;> simp [Instr.format] at hf ⊢
    exact decode_rw cfg r rest
  | hop =>
    obtain ⟨op, hop⟩ := exists_selectCode hf
    rw [encode_of_selectCode hop, List.cons_append, decode_hop, decodeOperands_encodeOperands h hi hop]

/-- Settles O6: the decoder, run on each word and each select code. -/
theorem tableWordsDecodeToTheirRows : Obligations.TableWordsDecodeToTheirRows :=
  ⟨rfl, rfl, rfl, rfl, rfl, rfl, rfl, rfl, rfl, rfl, rfl, rfl, rfl, rfl, fun _ => rfl, rfl⟩

/-- Whatever the operands, a request is decoded to a row with its select code (30_encoding R61). -/
theorem selectCode_of_decodeOperands {cfg : Config} {op : BitVec 4} {bytes rest : List Byte} {i : Instr}
    (h : decodeOperands cfg op bytes = .ok (i, rest)) : selectCode i = some op := by
  have hself : BitVec.ofNat 4 op.toNat = op := by simp
  by_cases hop : 8 ≤ op.toNat
  · obtain ⟨low, rfl⟩ := (eight_le_iff_exists_low op).1 hop
    rw [decodeOperands_unassigned] at h
    cases h
    rfl
  · unfold decodeOperands at h
    split at h
    case h_9 => grind -- no code is left below `0x8`
    case h_1 hcode | h_2 hcode | h_3 hcode | h_4 hcode | h_5 hcode | h_6 hcode | h_7 hcode | h_8 hcode =>
      rw [← hself, hcode]
      grind [selectCode, Instr.readDefault]

/-- The unassigned row is what the codes from `0x8` on decode to, and only they (30_encoding R62). -/
theorem unassigned_iff_of_decodeOperands {cfg : Config} {op : BitVec 4} {bytes rest : List Byte} {i : Instr}
    (h : decodeOperands cfg op bytes = .ok (i, rest)) : (∃ low, i = .hopUnassigned low) ↔ 8 ≤ op.toNat := by
  rw [eight_le_iff_exists_low]
  have hcode := selectCode_of_decodeOperands h
  constructor
  · rintro ⟨low, rfl⟩
    exact ⟨low, (Option.some.inj hcode).symm⟩
  · rintro ⟨low, rfl⟩
    rw [decodeOperands_unassigned] at h
    cases h
    exact ⟨low, rfl⟩

/-- Settles O16: a decoded request has the select code it was decoded from, and the refusal is the error alone. -/
theorem unassignedCodesAreRefused : Obligations.UnassignedCodesAreRefused := by
  refine ⟨fun cfg op operands rest i h => unassigned_iff_of_decodeOperands h, fun cfg op operands hop => ?_,
    fun s low hp => ?_⟩
  · obtain ⟨low, rfl⟩ := (eight_le_iff_exists_low op).1 hop
    exact ⟨low, rfl, decodeOperands_unassigned cfg low operands⟩
  · rw [exec, execHopUnassigned, State.accept, if_pos hp, State.fail, State.done, ← hp]

/-! ## The words the block can send -/

section
variable {cfg : Config} {i : Instr} {w : Word}

/-- The four forms of the produced words (30_encoding R65). -/
theorem exists_commandWord_iff :
    (∃ i, commandWord cfg i = some w) ↔ w = encodeReadData cfg ∨ w = encodeReadConfig cfg ∨
      (∃ d, w = encodeWriteData cfg d) ∨ ∃ baud, w = encodeWriteConfig cfg (openPayload cfg baud) := by
  constructor
  · rintro ⟨i, hw⟩
    cases i with
    | readData => cases hw; exact .inl rfl
    | readConf => cases hw; exact .inr (.inl rfl)
    | writeData d => cases hw; exact .inr (.inr (.inl ⟨d, rfl⟩))
    | writeConf baud => cases hw; exact .inr (.inr (.inr ⟨baud, rfl⟩))
    | _ => cases hw
  · rintro (rfl | rfl | ⟨d, rfl⟩ | ⟨baud, rfl⟩)
    · exact ⟨.readData, rfl⟩
    · exact ⟨.readConf, rfl⟩
    · exact ⟨.writeData d, rfl⟩
    · exact ⟨.writeConf baud, rfl⟩

theorem toNat_commandOf (tag : BitVec 2) (payload : BitVec 14) :
    (commandOf tag payload).toNat = tag.toNat <<< 14 ||| payload.toNat := BitVec.toNat_append tag payload

theorem encodeWriteData_standard (d : Byte) : encodeWriteData .standard d = 0x8000 ||| d.setWidth 16 := by
  refine BitVec.eq_of_toNat_eq ?_
  have hd {n : Nat} (hn : 256 ≤ n) : d.toNat % n = d.toNat := Nat.mod_eq_of_lt (d.isLt.trans_le hn)
  simp [encodeWriteData, toNat_commandOf, Config.standard, hd]

theorem encodeWriteConfig_openPayload_standard (baud : BitVec 4) :
    encodeWriteConfig .standard (openPayload .standard baud) = 0xC400 ||| baud.setWidth 16 := by
  revert baud
  decide

/-- The rows of the command words. -/
def commandRows : List Instr :=
  .readData :: .readConf :: ((FinEnum.toList Byte).map .writeData ++ (FinEnum.toList (BitVec 4)).map .writeConf)

theorem mem_commandRows : i ∈ commandRows ↔ i.format = .cw := by
  cases i <;> simp [commandRows, Instr.format]

theorem commandRows_nodup : commandRows.Nodup := by
  have hdata : ((FinEnum.toList Byte).map Instr.writeData).Nodup :=
    FinEnum.nodup_toList.map fun _ _ => Instr.writeData.inj
  have hconf : ((FinEnum.toList (BitVec 4)).map Instr.writeConf).Nodup :=
    FinEnum.nodup_toList.map fun _ _ => Instr.writeConf.inj
  have happend := hdata.append hconf (by simp [List.Disjoint])
  simp [commandRows, happend]

theorem commandRows_length : commandRows.length = 274 := by
  simp [commandRows, FinEnum.toList]

/-- The words of the command rows. -/
def producedWords (cfg : Config) : List Word := commandRows.filterMap (commandWord cfg)

theorem mem_producedWords : w ∈ producedWords cfg ↔ ∃ i, commandWord cfg i = some w := by
  simp only [producedWords, List.mem_filterMap, mem_commandRows]
  refine ⟨fun ⟨i, _, hw⟩ => ⟨i, hw⟩, fun ⟨i, hw⟩ => ⟨i, ?_, hw⟩⟩
  cases i with
  | readData | readConf | writeData _ | writeConf _ => rfl
  | _ => cases hw

theorem producedWords_length (cfg : Config) : (producedWords cfg).length = 274 := by
  have hall : ∀ i ∈ commandRows, (commandWord cfg i).isSome := fun i hi =>
    Option.isSome_iff_exists.2 (exists_commandWord cfg (mem_commandRows.1 hi))
  rw [producedWords, List.length_filterMap_eq_countP, List.countP_eq_length.2 hall, commandRows_length]

/-- No two rows have the same word, for it decodes to its row. -/
theorem producedWords_nodup (h : cfg.WF) : (producedWords cfg).Nodup := by
  refine commandRows_nodup.filterMap fun i j w hi hj => ?_
  have hi := decodeCommand_of_commandWord h hi
  have hj := decodeCommand_of_commandWord h hj
  exact Except.ok.inj (hi.symm.trans hj)

end

/-- Settles O2: the words of the command rows, of which there are 1 + 1 + 256 + 16. -/
theorem producedWordsAreThe274OfTheMap : Obligations.ProducedWordsAreThe274OfTheMap := by
  refine ⟨fun w => ?_, producedWords .standard, producedWords_nodup (by decide), producedWords_length _,
    fun w => mem_producedWords⟩
  simp only [exists_commandWord_iff, encodeWriteData_standard, encodeWriteConfig_openPayload_standard]
  rfl

end Sys2Proof.Machine

/-! # The exchanges of a step, and what counts of a reply (30_encoding R59, R60, R65)

The link of a state is all that a step can change by sending a word: it stays, or takes the one exchange of the phase
(`step_link`), whose word is a command word. What a reply does depends on the bits its phase reads (`onReply_congr`)
and not on the exchanges before (`onReply_withWire`), so that two replies that agree on those bits do the same. -/

namespace Sys2Proof.Machine

/-! ## What a step does to the link -/

/-- The link as the block has it: the parameters, the exchanges made and the answers to come. -/
structure Link where
  cfg : Config
  wire : List Exchange
  answers : List Answer

/-- The link of a state. -/
def State.link (s : State) : Link := ⟨s.cfg, s.wire, s.answers⟩

section
variable {s t : State} {i : Instr} {serve : State → State}

theorem gated_link (h : ∀ u, (serve u).link = u.link) : (s.gated serve).link = s.link := by
  unfold State.gated
  split
  · rfl
  · exact h s

theorem accept_link (h : ∀ u, (serve u).link = u.link) : (s.accept i serve).link = s.link := by
  rcases accept_cases s i serve with ⟨-, ha⟩ | ⟨-, ha⟩ <;> rw [ha]
  exact h _

/-- Accepting a request makes no exchange (46_sequencer R136). -/
theorem exec_hop_link (hi : i.format = .hop) (h : exec i s = .next t) : t.link = s.link := by
  cases i with
  | readData | readConf | writeData _ | writeConf _ | reply _ => cases hi
  | openSession baud mm => cases h; exact accept_link fun _ => by split <;> rfl
  | closeSession => cases h; exact accept_link fun _ => by split_ifs <;> rfl
  | hopUnassigned low => cases h; exact accept_link fun _ => rfl
  | write bytes => cases h; exact accept_link fun _ => gated_link fun _ => by split_ifs <;> rfl
  | putByte _ | getByte | available | clear | read _ =>
    cases h; exact accept_link fun _ => gated_link fun _ => rfl

theorem finishPut_link (s : State) : s.finishPut.link = s.link := by
  rcases finishPut_cases s with ⟨bytes, -, -, h⟩ | ⟨-, h⟩ <;> rw [h] <;> rfl

theorem pop_link (s : State) : s.pop.2.link = s.link := by
  rcases pop_cases s with ⟨-, h⟩ | ⟨-, h⟩ <;> rw [h]
  rfl

theorem continueRead_link (s : State) (len : Int) (g : Option Byte) : (s.continueRead len g).link = s.link := by
  unfold State.continueRead
  dsimp only
  split <;> rfl

/-- The end of a Drain Loop makes no exchange (46_sequencer R139). -/
theorem finishDrain_link (s : State) : s.finishDrain.link = s.link := by
  unfold State.finishDrain
  split
  · rfl
  · rfl
  · exact finishPut_link s
  · split
    · exact pop_link s
    · exact (continueRead_link _ _ _).trans (pop_link s)

/-- What a reply does, it does without the link. -/
theorem onReply_link (s : State) (r : Word) : (s.onReply r).link = s.link := by
  unfold State.onReply
  split
  · rfl
  · rfl
  · rcases onReplyDrain_cases s r with ⟨-, -, h⟩ | ⟨-, -, h⟩ | ⟨-, h⟩ <;> rw [h] <;> rfl
  · unfold State.onReplyPoll
    split_ifs <;> rfl
  · rcases onReplyStep_cases s r with ⟨-, -, h⟩ | ⟨-, -, h⟩ | ⟨-, h⟩ <;> rw [h] <;> rfl
  · rcases onReplySend_cases s r with ⟨-, -, h⟩ | ⟨-, -, h⟩ | ⟨-, h⟩ <;> rw [h]
    · rfl
    · rfl
    · exact finishPut_link s

theorem onAnswer_link (s : State) (a : Answer) : (s.onAnswer a).link = s.link := by
  cases a with
  | word r => exact onReply_link s r
  | fail => rfl

/-- A step leaves the link alone, or makes the one exchange of its phase (46_sequencer R135). -/
theorem step_link (h : step s = .next t) :
    t.link = s.link ∨ ∃ i w, s.nextCommand = some i ∧ commandWord s.cfg i = some w ∧
      t.link = (s.exchanged w (s.answer w)).link := by
  rcases step_cases s with ⟨-, hs⟩ | ⟨-, -, -, hs⟩ | ⟨i, rest, -, hp, -, hs⟩ | ⟨i, -, -, hi, hs⟩ | ⟨-, -, -, hs⟩
  · cases hs.symm.trans h
    exact .inl rfl
  · cases hs.symm.trans h
    exact .inl rfl
  · have hexec := hs.symm.trans h
    by_cases hf : i.format = .hop
    · exact .inl (exec_hop_link (s := { s with requests := rest }) hf hexec)
    · cases (exec_idle_of_format_ne (s := { s with requests := rest }) hp hf).symm.trans hexec
      exact .inl rfl
  · obtain ⟨w, hw⟩ := commandWord_of_nextCommand hi
    by_cases hp : s.phase = .cfg
    · cases (exec_command_of_cfg hi hw hp).symm.trans (hs.symm.trans h)
      split
      · exact .inr ⟨i, w, hi, hw, onAnswer_link _ _⟩
      · exact .inl rfl
    · cases (exec_command_of_ne_cfg hi hw hp).symm.trans (hs.symm.trans h)
      exact .inr ⟨i, w, hi, hw, onAnswer_link _ _⟩
  · cases hs.symm.trans h
    exact .inl (finishDrain_link s)

theorem sendsOnlyCommands_iff :
    s.sendsOnlyCommands = true ↔ ∀ x ∈ s.wire, ∃ i, decodeCommand s.cfg x.sent = .ok i := by
  rw [State.sendsOnlyCommands, List.all_eq_true]
  refine forall₂_congr fun x _ => ?_
  cases decodeCommand s.cfg x.sent <;> simp

end

/-- Settles O40: the only word a step sends is that of its phase's command row, which decodes to that row. -/
theorem onlyCommandWordsAreSent : Obligations.OnlyCommandWordsAreSent := by
  intro s t hwf hsent h
  rw [sendsOnlyCommands_iff] at hsent ⊢
  rcases step_link h with hlink | ⟨i, w, -, hw, hlink⟩
  · obtain ⟨hcfg, hwire, -⟩ := Link.mk.inj hlink
    rwa [hcfg, hwire]
  · obtain ⟨hcfg, hwire, -⟩ := Link.mk.inj hlink
    rw [hcfg, hwire]
    intro x hx
    rcases List.mem_append.1 hx with hold | hnew
    · exact hsent x hold
    · rw [List.mem_singleton.1 hnew]
      exact ⟨i, decodeCommand_of_commandWord hwf hw⟩

/-! ## The bits of a reply that count -/

section
variable {s : State} {r r' : Word}

/-- The phase reads the same of both replies: `R`, `T` and the data byte; `R` alone where a reply without data is
discarded; nothing in `CFG`. -/
def State.readsSame (s : State) (r r' : Word) : Prop :=
  (s.replyR r = s.replyR r' ∧ s.replyT r = s.replyT r' ∧ decodeDataByte r = decodeDataByte r') ∨
    ((s.phase = .drain ∨ s.phase = .step ∨ s.phase = .send) ∧ s.replyR r = false ∧ s.replyR r' = false) ∨
    s.phase = .cfg

/-- The state with other exchanges made. -/
def State.withWire (s : State) (wire : List Exchange) : State := { s with wire := wire }

/-- What `capture` reads of a reply: `R`, and the data byte where `R = 1` (41_drain R82). -/
theorem capture_congr (hR : s.replyR r = s.replyR r')
    (hdata : s.replyR r = true → decodeDataByte r = decodeDataByte r') : s.capture r = s.capture r' := by
  unfold State.capture
  rw [← hR]
  split
  next h => rw [hdata h]
  next => rfl

/-- Two replies have the same effect in a phase if they agree on what it reads. -/
theorem onReply_congr (h : s.readsSame r r') : s.onReply r = s.onReply r' := by
  rcases h with ⟨hR, hT, hdata⟩ | ⟨hp, hR, hR'⟩ | hp
  · have hcapture : s.capture r = s.capture r' := capture_congr hR fun _ => hdata
    simp only [State.onReply, State.onReplyDrain, State.onReplyPoll, State.onReplyStep, State.onReplySend, hcapture,
      hR, hT]
  · have hcapture : s.capture r = s.capture r' := capture_congr (hR.trans hR'.symm) (by simp [hR])
    rcases hp with hp | hp | hp <;>
      simp only [State.onReply, hp, State.onReplyDrain, State.onReplyStep, State.onReplySend, hcapture]
  · simp only [State.onReply, hp]

theorem capture_withWire (s : State) (wire : List Exchange) (r : Word) :
    (s.withWire wire).capture r = ((s.capture r).1, (s.capture r).2.withWire wire) := by
  have hR : (s.withWire wire).replyR r = s.replyR r := rfl
  have hfull : (s.withWire wire).full = s.full := rfl
  simp only [State.capture, State.push, hR, hfull]
  cases s.replyR r with
  | false => rfl
  | true => cases s.full <;> rfl

theorem finishPut_withWire (s : State) (wire : List Exchange) :
    (s.withWire wire).finishPut = s.finishPut.withWire wire := by
  have harg : (s.withWire wire).arg = s.arg := rfl
  unfold State.finishPut
  rw [harg]
  split
  · rw [apply_ite (State.withWire · wire)]
    rfl
  · rfl

/-- The effect of a reply does not depend on the exchanges before it. -/
theorem onReply_withWire (s : State) (wire : List Exchange) (r : Word) :
    (s.withWire wire).onReply r = (s.onReply r).withWire wire := by
  have hphase : (s.withWire wire).phase = s.phase := rfl
  have hcapture := capture_withWire s wire r
  rcases hc : s.capture r with ⟨c, u⟩
  rw [hc] at hcapture
  unfold State.onReply
  rw [hphase]
  cases s.phase with
  | idle => rfl
  | cfg => rfl
  | poll =>
    dsimp only [State.onReplyPoll]
    rw [apply_ite (State.withWire · wire), apply_ite (State.withWire · wire)]
    rfl
  | drain =>
    simp only [State.onReplyDrain, hcapture, hc]
    cases c <;> rfl
  | step =>
    simp only [State.onReplyStep, hcapture, hc]
    cases c <;> rfl
  | send =>
    simp only [State.onReplySend, hcapture, hc]
    cases c with
    | miss => exact finishPut_withWire u wire
    | _ => rfl

/-- What the exchange with a reply leaves, but for the exchanges shown, is what the reply does. -/
theorem exchangeReply_withWire (s : State) (w r : Word) (wire : List Exchange) :
    (s.exchangeReply w r).withWire wire = ({ s with answers := s.answers.tail }.withWire wire).onReply r :=
  (onReply_withWire (s.exchanged w (.word r)) wire r).symm

/-- Two exchanges whose replies agree on what the phase reads differ in the word shown alone. -/
theorem exchangeReply_withWire_congr (w : Word) {wire : List Exchange} (h : s.readsSame r r') :
    (s.exchangeReply w r).withWire wire = (s.exchangeReply w r').withWire wire := by
  rw [exchangeReply_withWire, exchangeReply_withWire]
  exact onReply_congr h

end

/-- Settles O28: the exchange differs in the word it shows alone, and the phase reads the same of both replies. -/
theorem unusedReplyBitsChangeNothing : Obligations.UnusedReplyBitsChangeNothing := by
  intro s t t' r r' ht ht' h
  cases hi : s.nextCommand with
  | none =>
    cases (exec_reply_of_no_command r hi).symm.trans ht
    cases (exec_reply_of_no_command r' hi).symm.trans ht'
    rfl
  | some i =>
    obtain ⟨w, hw⟩ := commandWord_of_nextCommand hi
    by_cases hp : s.phase = .cfg
    · cases (exec_reply_of_cfg hi hw r hp).symm.trans ht
      cases (exec_reply_of_cfg hi hw r' hp).symm.trans ht'
      exact exchangeReply_withWire_congr w (.inr (.inr hp))
    · cases (exec_reply_of_ne_cfg hi hw r hp).symm.trans ht
      cases (exec_reply_of_ne_cfg hi hw r' hp).symm.trans ht'
      exact exchangeReply_withWire_congr w h

end Sys2Proof.Machine

/-! # The codec (40_codec R70 to R78)

A command word is a tag above a payload: the payload comes out of the low bits (`commandOf_low`) and is or-ed to the
word of the tag alone (`commandOf_eq_or`), and words of different commands differ in the tag. -/

namespace Sys2Proof.Machine

/-- A command word is the word of its tag alone, with its payload in the low bits (30_encoding R51). -/
theorem commandOf_eq_or (tag : BitVec 2) (payload : BitVec 14) :
    commandOf tag payload = commandOf tag 0 ||| payload.setWidth 16 := by
  have hpayload : payload.setWidth 16 = 0#2 ++ payload := BitVec.setWidth_eq_append (by decide)
  calc tag ++ payload
      = (tag ||| 0#2) ++ (0#14 ||| payload) := by rw [BitVec.or_zero, BitVec.zero_or]
    _ = tag ++ 0#14 ||| payload.setWidth 16 := by rw [hpayload, BitVec.or_append]

/-- The low bits of a command word are those of its payload. -/
theorem commandOf_low (tag : BitVec 2) (payload : BitVec 14) {k : Nat} (hk : k ≤ 14) :
    (commandOf tag payload).extractLsb' 0 k = payload.extractLsb' 0 k :=
  BitVec.extractLsb'_append_eq_of_add_le (by omega)

/-- The low byte of a write-data word is its byte, so that the encoder is injective (40_codec R71). -/
theorem encodeWriteData_low (cfg : Config) (b : Byte) : (encodeWriteData cfg b).extractLsb' 0 8 = b := by
  obtain ⟨-, hlow⟩ := setWidth_parts (m := 14) (by decide) b 6
  rw [encodeWriteData, commandOf_low _ _ (by decide), hlow]

theorem encodeWriteConfig_standard (bits : BitVec 14) :
    encodeWriteConfig .standard bits = 0xC000 ||| bits.setWidth 16 := commandOf_eq_or _ bits

/-- With the default parameters the baud code is the low end of the payload, and `RM` is bit 10 (30_encoding R53). -/
theorem openPayload_standard (baud : BitVec 4) : openPayload .standard baud = 0x0400 ||| baud.setWidth 14 :=
  congrArg (0x0400 ||| ·) (BitVec.shiftLeft_zero _)

/-- The data byte of a reply is its low byte (40_codec R76). -/
theorem decodeDataByte_eq_low (w : Word) : decodeDataByte w = w.extractLsb' 0 8 :=
  BitVec.setWidth_eq_extractLsb' (by decide)

/-- The four encoders give words with different tags (40_codec R78), for each word has the tag of its command. -/
theorem encoders_tags_nodup {cfg : Config} (h : cfg.WF) (b : Byte) (bits : BitVec 14) :
    ([encodeReadData cfg, encodeWriteData cfg b, encodeReadConfig cfg, encodeWriteConfig cfg bits].map
      fun w => w.extractLsb' 14 2).Nodup := by
  have htags : ([.readData, .writeData, .readConf, .writeConf].map (tagOf cfg)).Nodup :=
    List.Nodup.map (tagOf_injective h) (by decide)
  simpa only [List.map, tagOf, encodeReadData, encodeWriteData, encodeReadConfig, encodeWriteConfig, commandOf_tag]
    using htags

/-- Settles O3: the layout is the encoders' definition, and the values are the tag's word or-ed with the payload. -/
theorem encodersPutTagAndPayload : Obligations.EncodersPutTagAndPayload :=
  ⟨fun _ => rfl, fun _ _ => rfl, fun _ => rfl, fun _ _ => rfl, encodeWriteData_low, rfl, rfl,
    encodeWriteData_standard, encodeWriteConfig_standard, openPayload_standard⟩

/-- Settles O4: the data byte is the low byte, of a reply as of a write-data word, and the tags are distinct. -/
theorem replyDecodingRecoversTheByte : Obligations.ReplyDecodingRecoversTheByte := by
  refine ⟨fun cfg b r hR hb => ⟨hR, (decodeDataByte_eq_low r).trans hb⟩, fun cfg b => ?_,
    fun cfg b bits h => encoders_tags_nodup h b bits⟩
  rw [decodeDataByte_eq_low, encodeWriteData_low]

end Sys2Proof.Machine

/-! # The Drain Loop (41_drain R80 to R84)

Every round of the loop makes one exchange, which raises an error, misses or hits (`callDrainStep_cases`). That the loop
ends is a matter of the room in the ring (`callFetchLoop_endsWithin`): a hit sets the Miss Counter back but takes up a
slot. Where the loop returns, `DrainsTo` relates the replies it has read to the bytes stored and to the cost. -/

namespace Sys2Proof.Machine

section
variable {s t : State}

/-! ## A byte pushed is behind the others -/

theorem len_lt_capacity (hh : s.head < s.cfg.capacity) (ht : s.tail < s.cfg.capacity) : s.len < s.cfg.capacity := by
  rw [len_eq s hh ht]
  split <;> omega

/-- The slot behind the occupied window is none of the window's (10_state R16 (e)). -/
theorem windowSlot_ne_headSlot (hh : s.head < s.cfg.capacity) (ht : s.tail < s.cfg.capacity) {k : Nat}
    (hk : k < s.len) : s.windowSlot k ≠ s.headSlot := by
  have hlen := len_lt_capacity hh ht
  rw [← windowSlot_len hh ht]
  intro heq
  have hmod : k ≡ s.len [MOD s.cfg.capacity] := Nat.ModEq.add_left_cancel' s.tail heq
  exact hk.ne (hmod.eq_of_lt_of_lt (hk.trans hlen) hlen)

theorem memRead_store_headSlot (s : State) (b : Byte) : (s.store b).memRead s.headSlot = b := by
  simp [State.memRead]

theorem memRead_store_other (b : Byte) {i : Nat} (h : i ≠ s.headSlot) : (s.store b).memRead i = s.memRead i := by
  simp [State.memRead, memory_read_write_other _ _ h]

theorem contents_store (hh : s.head < s.cfg.capacity) (ht : s.tail < s.cfg.capacity) (hf : s.full = false)
    (b : Byte) : (s.store b).contents = s.contents ++ [b] := by
  have hwin (k : Nat) : (s.store b).windowSlot k = s.windowSlot k := rfl
  have hold : (List.range s.len).map (fun k => (s.store b).memRead (s.windowSlot k)) = s.contents :=
    List.map_congr_left fun k hk =>
      memRead_store_other b (windowSlot_ne_headSlot hh ht (List.mem_range.1 hk))
  have hnew : (s.store b).memRead (s.windowSlot s.len) = b := by
    rw [windowSlot_len hh ht, memRead_store_headSlot]
  simp only [State.contents, len_store hh ht hf, hwin, List.range_succ, List.map_append, List.map_singleton, hnew]
  rw [hold, State.contents]

/-! ## One round -/

/-- The read-data exchange has been answered with `r` (41_drain R80). -/
def State.received (s : State) (r : Word) : State := s.exchanged (encodeReadData s.cfg) (.word r)

theorem State.Inv.received (h : s.Inv) (r : Word) : (s.received r).Inv := h.of_storage_eq rfl h.phase_ok

/-- `drainStep` makes one exchange, and raises an error, misses or hits (41_drain R80, R82). -/
theorem callDrainStep_cases (s : State) :
    (∃ e t, callDrainStep s = .raised e t ∧ t.wire.length = s.wire.length + 1) ∨
      (∃ r, s.replyR r = false ∧ callDrainStep s = .ret false (s.received r)) ∨
      (∃ r, s.replyR r = true ∧ s.full = false ∧
        callDrainStep s = .ret true ((s.received r).store (decodeDataByte r))) := by
  cases ha : s.answer (encodeReadData s.cfg) with
  | fail =>
    have hstep : callDrainStep s = .raised .ioError (s.exchanged (encodeReadData s.cfg) .fail) := by
      simp only [callDrainStep, callXchg, ha, Run.raised_andThen]
    exact .inl ⟨_, _, hstep, by simp⟩
  | word r =>
    have hstep : callDrainStep s = callCapture r (s.received r) := by
      simp only [callDrainStep, callXchg, ha, Run.ret_andThen, State.received]
    rw [hstep]
    cases hR : s.replyR r with
    | false => exact .inr (.inl ⟨r, hR, callCapture_miss hR⟩)
    | true =>
      cases hf : s.full with
      | true => exact .inl ⟨_, _, callCapture_overrun (s := s.received r) hR hf, by simp [State.received]⟩
      | false => exact .inr (.inr ⟨r, hR, rfl, callCapture_hit (s := s.received r) hR hf⟩)

theorem callFetchLoop_of_lt {miss : Nat} (hm : miss < s.maxMisses) (fuel : Nat) :
    callFetchLoop (fuel + 1) miss s =
      (callDrainStep s).andThen fun hit s => callFetchLoop fuel (if hit then 0 else miss + 1) s := if_pos hm

theorem callFetchLoop_of_le {miss : Nat} (hm : s.maxMisses ≤ miss) (fuel : Nat) :
    callFetchLoop (fuel + 1) miss s = .ret () s := if_neg (Nat.not_lt.2 hm)

/-! ## The loop ends -/

/-- The procedure ends, by a value or an error, with at most `n` exchanges on the wire. -/
def Run.EndsWithin {α : Type} (n : Nat) : Run α → Prop
  | .ret _ t => t.wire.length ≤ n
  | .raised _ t => t.wire.length ≤ n
  | .running _ => False

/-- The exchanges of a Drain Loop at most: `maxMisses` for each free slot and once more (41_drain R84). -/
def State.drainAllowance (s : State) : Nat := (s.cfg.capacity - s.len) * s.maxMisses

theorem maxMisses_le_drainAllowance (h : s.Inv) : s.maxMisses ≤ s.drainAllowance :=
  Nat.le_mul_of_pos_left _ (Nat.sub_pos_of_lt (len_lt_capacity h.head_lt h.tail_lt))

theorem received_drainAllowance (s : State) (r : Word) : (s.received r).drainAllowance = s.drainAllowance := rfl

theorem received_wire_length (s : State) (r : Word) : (s.received r).wire.length = s.wire.length + 1 := by
  simp [State.received]

/-- A byte stored takes up a free slot, and with it `maxMisses` of the exchanges. -/
theorem drainAllowance_store (h : s.Inv) (hf : s.full = false) (b : Byte) :
    (s.store b).drainAllowance + s.maxMisses = s.drainAllowance := by
  have hlen := len_lt_capacity h.head_lt h.tail_lt
  have hfree : s.cfg.capacity - s.len = s.cfg.capacity - (s.len + 1) + 1 := by omega
  simp only [State.drainAllowance, State.store_cfg, State.store_maxMisses, len_store h.head_lt h.tail_lt hf]
  rw [hfree, Nat.succ_mul]

/-- A miss uses up one exchange of the allowance; a hit uses up one, loses the misses counted, which are fewer than
`maxMisses`, and gives up a slot. -/
theorem callFetchLoop_endsWithin {fuel miss n : Nat} (h : s.Inv) (hmiss : miss ≤ s.maxMisses)
    (hfuel : s.drainAllowance < fuel + miss) (hn : s.wire.length + s.drainAllowance ≤ n + miss) :
    (callFetchLoop fuel miss s).EndsWithin n := by
  have hallow := maxMisses_le_drainAllowance h
  induction fuel generalizing s miss with
  | zero => omega
  | succ fuel ih =>
    rcases Nat.lt_or_ge miss s.maxMisses with hm | hm
    · rw [callFetchLoop_of_lt hm]
      rcases callDrainStep_cases s with ⟨e, t, hs, ht⟩ | ⟨r, -, hs⟩ | ⟨r, -, hf, hs⟩ <;> rw [hs]
      · change t.wire.length ≤ n
        omega
      · have hwire := received_wire_length s r
        have hsame := received_drainAllowance s r
        exact ih (miss := miss + 1) (h.received r) hm (by omega) (by omega) hallow
      · have hi := (h.received r).store hf (decodeDataByte r)
        have hwire : ((s.received r).store (decodeDataByte r)).wire.length = s.wire.length + 1 :=
          received_wire_length s r
        have hless : ((s.received r).store (decodeDataByte r)).drainAllowance + s.maxMisses = s.drainAllowance :=
          drainAllowance_store (h.received r) hf _
        exact ih (miss := 0) hi (Nat.zero_le _) (by omega) (by omega) (maxMisses_le_drainAllowance hi)
    · rw [callFetchLoop_of_le hm]
      change s.wire.length ≤ n
      omega

/-! ## What a loop that returns has done -/

/-- The data bytes of the replies with `R = 1`, in arrival order (41_drain R82). -/
def hitBytes (cfg : Config) (replies : List Word) : List Byte :=
  (replies.filter (decodeReceiverHasData cfg)).map decodeDataByte

theorem hitBytes_cons_of_miss {cfg : Config} {r : Word} (h : decodeReceiverHasData cfg r = false)
    (replies : List Word) : hitBytes cfg (r :: replies) = hitBytes cfg replies := by simp [hitBytes, h]

theorem hitBytes_cons_of_hit {cfg : Config} {r : Word} (h : decodeReceiverHasData cfg r = true)
    (replies : List Word) : hitBytes cfg (r :: replies) = decodeDataByte r :: hitBytes cfg replies := by
  simp [hitBytes, h]

/-- A Drain Loop goes from `s` with the Miss Counter at `miss` to `t` on these replies. -/
structure DrainsTo (s : State) (miss : Nat) (replies : List Word) (t : State) : Prop where
  sent : t.wire = s.wire ++ replies.map fun r => ⟨encodeReadData s.cfg, .word r⟩
  stored : t.contents = s.contents ++ hitBytes s.cfg replies
  at_least : (hitBytes s.cfg replies).length + s.maxMisses ≤ replies.length + miss
  at_most : replies.length + miss ≤ ((hitBytes s.cfg replies).length + 1) * s.maxMisses

theorem DrainsTo.refl (s : State) : DrainsTo s s.maxMisses [] s := by
  constructor <;> simp [hitBytes]

theorem DrainsTo.of_miss {miss : Nat} {r : Word} {replies : List Word} (hR : s.replyR r = false)
    (h : DrainsTo (s.received r) (miss + 1) replies t) : DrainsTo s miss (r :: replies) t := by
  obtain ⟨hsent, hstored, hlow, hhigh⟩ := h
  have hbytes : hitBytes s.cfg (r :: replies) = hitBytes s.cfg replies := hitBytes_cons_of_miss hR replies
  have hcount : (r :: replies).length + miss = replies.length + (miss + 1) := by
    rw [List.length_cons]; omega
  constructor
  · rw [hsent]; simp [State.received]
  · rw [hbytes]; exact hstored
  · rw [hbytes, hcount]; exact hlow
  · rw [hbytes, hcount]; exact hhigh

theorem DrainsTo.of_hit {miss : Nat} {r : Word} {replies : List Word} (hi : s.Inv) (hR : s.replyR r = true)
    (hf : s.full = false) (hm : miss < s.maxMisses)
    (h : DrainsTo ((s.received r).store (decodeDataByte r)) 0 replies t) : DrainsTo s miss (r :: replies) t := by
  obtain ⟨hsent, hstored, hlow, hhigh⟩ := h
  have hcontents : ((s.received r).store (decodeDataByte r)).contents = s.contents ++ [decodeDataByte r] :=
    contents_store (s := s.received r) hi.head_lt hi.tail_lt hf _
  have hbytes : hitBytes s.cfg (r :: replies) = decodeDataByte r :: hitBytes s.cfg replies :=
    hitBytes_cons_of_hit hR replies
  change (hitBytes s.cfg replies).length + s.maxMisses ≤ replies.length + 0 at hlow
  change replies.length + 0 ≤ ((hitBytes s.cfg replies).length + 1) * s.maxMisses at hhigh
  constructor
  · rw [hsent]; simp [State.received]
  · rw [hstored, hcontents, hbytes, List.append_assoc]; rfl
  · rw [hbytes, List.length_cons, List.length_cons]; omega
  · rw [hbytes, List.length_cons, List.length_cons, Nat.succ_mul]; omega

theorem callFetchLoop_drainsTo {fuel miss : Nat} (hi : s.Inv) (hmiss : miss ≤ s.maxMisses)
    (h : callFetchLoop fuel miss s = .ret () t) : ∃ replies, DrainsTo s miss replies t := by
  induction fuel generalizing s miss with
  | zero => cases h
  | succ fuel ih =>
    rcases Nat.lt_or_ge miss s.maxMisses with hm | hm
    · rw [callFetchLoop_of_lt hm] at h
      rcases callDrainStep_cases s with ⟨e, u, hs, -⟩ | ⟨r, hR, hs⟩ | ⟨r, hR, hf, hs⟩ <;> rw [hs] at h
      · cases h
      · obtain ⟨replies, hd⟩ := ih (hi.received r) hm h
        exact ⟨r :: replies, hd.of_miss hR⟩
      · obtain ⟨replies, hd⟩ := ih ((hi.received r).store hf _) (Nat.zero_le _) h
        exact ⟨r :: replies, hd.of_hit hi hR hf hm⟩
    · rw [callFetchLoop_of_le hm] at h
      cases h
      exact ⟨[], Nat.le_antisymm hmiss hm ▸ .refl t⟩

theorem callFetchPending_of_no_budget {fuel : Nat} (hm : s.maxMisses = 0)
    (h : callFetchPending fuel s = .ret () t) : t = s := by
  cases fuel with
  | zero => cases h
  | succ fuel =>
    rw [callFetchPending, callFetchLoop_of_le hm.le] at h
    cases h
    rfl

end

/-- Settles O49: at entry the allowance is `maxMisses` exchanges for each free slot and once more. -/
theorem drainLoopAlwaysEnds : Obligations.DrainLoopAlwaysEnds := by
  intro s fuel hi hfuel
  have hends : (callFetchPending fuel s).EndsWithin (s.wire.length + (s.cfg.capacity - s.len) * s.maxMisses) :=
    callFetchLoop_endsWithin hi (Nat.zero_le _) hfuel le_rfl
  cases h : callFetchPending fuel s with
  | ret _ t => rw [h] at hends; exact .inl ⟨t, rfl, hends⟩
  | raised e t => rw [h] at hends; exact .inr ⟨e, t, rfl, hends⟩
  | running t => rw [h] at hends; exact hends.elim

/-- Settles O51: the replies of the loop, with the decoder's reading of them written out. -/
theorem drainLoopStoresEveryHit : Obligations.DrainLoopStoresEveryHit := by
  intro s t fuel hi h
  obtain ⟨replies, hd⟩ := callFetchLoop_drainsTo hi (Nat.zero_le _) h
  refine ⟨replies, hd.sent, hd.stored.trans ?_⟩
  rw [hitBytes, List.map_congr_left fun r _ => decodeDataByte_eq_low r]
  rfl

/-- Settles O50: the exchanges are the replies, counted by the hits among them. -/
theorem drainLoopCostsBetweenItsBounds : Obligations.DrainLoopCostsBetweenItsBounds := by
  intro s t fuel hi h
  obtain ⟨replies, hd⟩ := callFetchLoop_drainsTo hi (Nat.zero_le _) h
  have hcost : t.wire.length = s.wire.length + replies.length := by
    rw [hd.sent, List.length_append, List.length_map]
  refine ⟨hitBytes s.cfg replies, hd.stored, fun hm => callFetchPending_of_no_budget hm h, fun _ => ?_⟩
  have hlow := hd.at_least
  have hhigh := hd.at_most
  constructor <;> omega

end Sys2Proof.Machine

/-! # The Ring Buffer (42_ring_buffer R90 to R94)

`len` tells an empty ring and a full one (`len_eq_zero_iff`, `full_iff_len`). A `push` appends to `contents`, a `pop`
takes its first byte; so a sequence of pushes succeeds as long as there is room (`pushAll_of_room`), and as many pops
give the contents back (`popN_contents`). -/

namespace Sys2Proof.Machine

/-- Both indices address slots of the ring (10_state R13, R14). -/
structure State.InRing (s : State) : Prop where
  head_lt : s.head < s.cfg.capacity
  tail_lt : s.tail < s.cfg.capacity

section
variable {s t : State} {b : Byte}

theorem headSlot_eq (hh : s.head < s.cfg.capacity) : s.headSlot = s.head := Nat.mod_eq_of_lt hh

theorem tailSlot_eq (ht : s.tail < s.cfg.capacity) : s.tailSlot = s.tail := Nat.mod_eq_of_lt ht

theorem State.Inv.inRing (h : s.Inv) : s.InRing := ⟨h.head_lt, h.tail_lt⟩

/-! ## `len` -/

theorem len_eq_zero_iff (h : s.InRing) : s.len = 0 ↔ s.head = s.tail := by
  refine ⟨fun hlen => ?_, len_eq_zero_of_empty⟩
  have htail := h.tail_lt
  rw [len_eq s h.head_lt h.tail_lt] at hlen
  split at hlen <;> omega

/-- A full ring leaves one slot free (10_state R16 (c)). -/
theorem full_iff_len (h : s.InRing) : s.full = true ↔ s.len + 1 = s.cfg.capacity := by
  have hhead := h.head_lt
  have htail := h.tail_lt
  rw [State.full, beq_iff_eq, advance_eq s s.head hhead, len_eq s hhead htail]
  split_ifs <;> omega

/-! ## One `push` -/

theorem push_of_not_full (hf : s.full = false) (b : Byte) : s.push b = (none, s.store b) := by
  simp [State.push, hf]

theorem push_of_full (hf : s.full = true) (b : Byte) : s.push b = (some .overrun, { s with ovr := true }) := by
  simp [State.push, hf]

theorem State.InRing.store (h : s.InRing) (b : Byte) : (s.store b).InRing :=
  ⟨advance_lt (Nat.zero_lt_of_lt h.head_lt) s.head, h.tail_lt⟩

theorem contents_of_push (h : s.InRing) (hp : s.push b = (none, t)) : t.contents = s.contents ++ [b] := by
  rcases push_cases s b with ⟨-, hpush⟩ | ⟨hf, hpush⟩ <;> cases hpush.symm.trans hp
  exact contents_store h.head_lt h.tail_lt hf b

/-! ## One `pop` -/

theorem State.InRing.advance_tail (h : s.InRing) : { s with tail := s.advance s.tail }.InRing :=
  ⟨h.head_lt, advance_lt (Nat.zero_lt_of_lt h.tail_lt) s.tail⟩

theorem contents_length (s : State) : s.contents.length = s.len := by simp [State.contents]

theorem contents_eq_nil_iff (h : s.InRing) : s.contents = [] ↔ s.head = s.tail := by
  rw [← List.length_eq_zero_iff, contents_length, len_eq_zero_iff h]

/-- The oldest unread byte is in slot `tail`, and the window behind it is that of the next `tail`. -/
theorem contents_eq_cons (h : s.InRing) (hne : s.head ≠ s.tail) :
    s.contents = s.memRead s.tailSlot :: { s with tail := s.advance s.tail }.contents := by
  have hread (i : Nat) : { s with tail := s.advance s.tail }.memRead i = s.memRead i := rfl
  simp only [State.contents, ← len_advance_tail h.head_lt h.tail_lt hne, List.range_succ_eq_map, List.map_cons,
    List.map_map, hread, windowSlot_advance_tail]
  rfl

theorem pop_of_empty (he : s.head = s.tail) : s.pop = (none, s) := by simp [State.pop, State.empty, he]

theorem pop_of_not_empty (hne : s.head ≠ s.tail) :
    s.pop = (some (s.memRead s.tailSlot), { s with tail := s.advance s.tail }) := by
  simp [State.pop, State.empty, hne]

theorem contents_of_pop (h : s.InRing) (hp : s.pop = (some b, t)) : s.contents = b :: t.contents := by
  rcases pop_cases s with ⟨-, hpop⟩ | ⟨hne, hpop⟩ <;> cases hpop.symm.trans hp
  exact contents_eq_cons h hne

theorem pop_eq_none_iff (s : State) : s.pop.1 = none ↔ s.head = s.tail := by
  rcases pop_cases s with ⟨he, hpop⟩ | ⟨hne, hpop⟩ <;> simp [*]

/-! ## Sequences of pushes and of pops -/

theorem pushAll_cons_of_full (hf : s.full = true) (b : Byte) (rest : List Byte) :
    State.pushAll (b :: rest) s = none := by
  rw [State.pushAll, push_of_full hf]

theorem pushAll_cons_of_not_full (hf : s.full = false) (b : Byte) (rest : List Byte) :
    State.pushAll (b :: rest) s = State.pushAll rest (s.store b) := by
  rw [State.pushAll, push_of_not_full hf]

theorem pushAll_of_room {bytes : List Byte} (h : s.InRing) (hroom : s.len + bytes.length < s.cfg.capacity) :
    ∃ t, State.pushAll bytes s = some t ∧ t.InRing ∧ t.contents = s.contents ++ bytes := by
  induction bytes generalizing s with
  | nil => exact ⟨s, rfl, h, (List.append_nil _).symm⟩
  | cons b rest ih =>
    rw [List.length_cons] at hroom
    have hf : s.full = false := by
      rw [Bool.eq_false_iff, ne_eq, full_iff_len h]
      omega
    have hlen := len_store (b := b) h.head_lt h.tail_lt hf
    obtain ⟨t, ht, hring, hcontents⟩ :=
      ih (h.store b) (show (s.store b).len + rest.length < s.cfg.capacity by omega)
    refine ⟨t, (pushAll_cons_of_not_full hf b rest).trans ht, hring, ?_⟩
    rw [hcontents, contents_store h.head_lt h.tail_lt hf, List.append_assoc, List.singleton_append]

theorem pushAll_overruns {bytes : List Byte} (h : s.InRing) (hroom : s.cfg.capacity ≤ s.len + bytes.length) :
    State.pushAll bytes s = none := by
  induction bytes generalizing s with
  | nil => exact absurd hroom (Nat.not_le.2 (len_lt_capacity h.head_lt h.tail_lt))
  | cons b rest ih =>
    cases hf : s.full with
    | true => exact pushAll_cons_of_full hf b rest
    | false =>
      rw [List.length_cons] at hroom
      have hlen := len_store (b := b) h.head_lt h.tail_lt hf
      rw [pushAll_cons_of_not_full hf]
      exact ih (h.store b) (show s.cfg.capacity ≤ (s.store b).len + rest.length by omega)

/-- As many pops as there are unread bytes return them in order and leave the ring empty. -/
theorem popN_contents {bytes : List Byte} (h : s.InRing) (hc : s.contents = bytes) :
    (State.popN bytes.length s).1 = bytes.map some ∧
      (State.popN bytes.length s).2.head = (State.popN bytes.length s).2.tail := by
  induction bytes generalizing s with
  | nil => exact ⟨rfl, (contents_eq_nil_iff h).1 hc⟩
  | cons b rest ih =>
    have hne : s.head ≠ s.tail := fun he => List.cons_ne_nil b rest (hc ▸ (contents_eq_nil_iff h).2 he)
    obtain ⟨hbyte, hrest⟩ := List.cons_eq_cons.1 ((contents_eq_cons h hne).symm.trans hc)
    obtain ⟨hbytes, hempty⟩ := ih h.advance_tail hrest
    simp only [List.length_cons, State.popN, pop_of_not_empty hne, List.map_cons, hbyte, hbytes, true_and]
    exact hempty

end

/-- Settles O31: `push` is the store or the overrun, and an index inside the ring is its own slot. -/
theorem pushStoresAtHeadOrOverruns : Obligations.PushStoresAtHeadOrOverruns := by
  intro s b hh
  refine ⟨fun hne => ?_, fun hfull => push_of_full (beq_iff_eq.2 hfull) b⟩
  have hstore : s.store b = { s with buf := Memory.write s.buf s.head b, head := (s.head + 1) % s.cfg.capacity } := by
    rw [State.store, headSlot_eq hh]
    rfl
  rw [push_of_not_full (full_eq_false_iff.2 hne), hstore]
  exact ⟨rfl, rfl, memory_read_write_same _ _ _, fun _ ha => memory_read_write_other _ _ ha⟩

/-- Settles O32: `pop` reads the slot of `tail`, which is `tail` itself inside the ring. -/
theorem popTakesTheByteAtTail : Obligations.PopTakesTheByteAtTail := by
  intro s ht
  refine ⟨pop_of_empty, fun b hne hread => ?_⟩
  have hbyte : s.memRead s.tailSlot = b := by rw [State.memRead, tailSlot_eq ht, hread, Option.getD_some]
  rw [pop_of_not_empty hne, hbyte]
  rfl

/-- Settles O33: the value by `len_eq`, the two ends by what `len` tells of an empty and of a full ring. -/
theorem lenCountsTheUnreadBytes : Obligations.LenCountsTheUnreadBytes := by
  intro s _ hh ht
  have hlen := len_eq s hh ht
  have hfull : s.len + 1 = s.cfg.capacity ↔ (s.head + 1) % s.cfg.capacity = s.tail :=
    (full_iff_len ⟨hh, ht⟩).symm.trans beq_iff_eq
  refine ⟨len_lt_capacity hh ht, fun hle => hlen.trans (if_pos hle),
    fun hlt => hlen.trans (if_neg (Nat.not_le.2 hlt)), len_eq_zero_iff ⟨hh, ht⟩, ?_⟩
  rw [← hfull]
  omega

/-- Settles O34: only that the indices lie inside the ring is needed of the invariant. -/
theorem pushAppendsAndPopTakesTheFirst : Obligations.PushAppendsAndPopTakesTheFirst := by
  intro s hi
  exact ⟨fun _ _ => contents_of_push hi.inRing, fun _ _ => contents_of_pop hi.inRing,
    (pop_eq_none_iff s).trans (contents_eq_nil_iff hi.inRing).symm⟩

/-- Settles O35: an empty ring has room for `C - 1` bytes, which are then its contents. -/
theorem fifoRoundTrip : Obligations.FifoRoundTrip := by
  intro s bytes _ hh he
  have hring : s.InRing := ⟨hh, he ▸ hh⟩
  have hlen : s.len = 0 := len_eq_zero_of_empty he
  refine ⟨fun hle => ?_, fun hcount => pushAll_overruns hring (by omega)⟩
  obtain ⟨t, hpush, ht, hcontents⟩ := pushAll_of_room hring (bytes := bytes) (by omega)
  rw [(contents_eq_nil_iff hring).2 he, List.nil_append] at hcontents
  exact ⟨t, hpush, popN_contents ht hcontents⟩

end Sys2Proof.Machine

/-! # A byte is sent only after a ready status (43_byte_api R102)

A byte is sent in phase `SEND` alone (`nextCommand_writeData`), and `SEND` is entered from a status poll answered with
`R = 0` and `T = 1` alone (`step_enters_send`). One exchange more keeps the rule on the exchanges made
(`sendsWhenReady_append`), so the two are R102 (a). -/

namespace Sys2Proof.Machine

/-! ## Phase `SEND` is entered from a ready status poll -/

section
variable {s t : State} {i : Instr} {serve : State → State}

theorem finishPut_phase_ne_send (s : State) : s.finishPut.phase ≠ .send := by
  rcases finishPut_cases s with ⟨bytes, -, -, h⟩ | ⟨-, h⟩ <;> rw [h] <;> nofun

theorem continueRead_phase_ne_send (s : State) (len : Int) (g : Option Byte) :
    (s.continueRead len g).phase ≠ .send := by
  unfold State.continueRead
  dsimp only
  split <;> nofun

theorem finishDrain_phase_ne_send (s : State) : s.finishDrain.phase ≠ .send := by
  unfold State.finishDrain
  split
  · nofun
  · nofun
  · exact finishPut_phase_ne_send s
  · split
    · nofun
    · exact continueRead_phase_ne_send _ _ _

theorem gated_phase_ne_send (h : ∀ u, (serve u).phase ≠ .send) : (s.gated serve).phase ≠ .send := by
  unfold State.gated
  split
  · nofun
  · exact h s

theorem accept_phase_ne_send (hp : s.phase = .idle) (h : ∀ u, (serve u).phase ≠ .send) :
    (s.accept i serve).phase ≠ .send := by
  rw [State.accept, if_pos hp]
  exact h _

/-- No request enters `SEND` in its acceptance step (46_sequencer R136). -/
theorem exec_idle_phase_ne_send (hp : s.phase = .idle) (h : exec i s = .next t) : t.phase ≠ .send := by
  cases i with
  | readData | readConf | writeData _ | writeConf _ | reply _ =>
    cases h.symm.trans (exec_idle_of_format_ne hp nofun)
    simp [hp]
  | openSession baud mm => cases h; exact accept_phase_ne_send hp fun _ => by split <;> nofun
  | closeSession => cases h; exact accept_phase_ne_send hp fun _ => by split_ifs <;> nofun
  | hopUnassigned low => cases h; exact accept_phase_ne_send hp fun _ => nofun
  | write bytes =>
    cases h; exact accept_phase_ne_send hp fun _ => gated_phase_ne_send fun _ => by split_ifs <;> nofun
  | putByte _ | getByte | available | clear | read _ =>
    cases h; exact accept_phase_ne_send hp fun _ => gated_phase_ne_send fun _ => nofun

/-- What a phase does after a capture does not enter `SEND`, where neither a hit nor a miss does. -/
theorem phase_ne_send_of_captures {r : Word} {hit miss : State → State} (h : Captures s r hit miss t)
    (hhit : (hit (s.store (decodeDataByte r))).phase ≠ .send) (hmiss : (miss s).phase ≠ .send) :
    t.phase ≠ .send := by
  rcases h with ⟨-, -, rfl⟩ | ⟨-, -, rfl⟩ | ⟨-, rfl⟩
  · nofun
  · exact hhit
  · exact hmiss

/-- Of the replies, only that to a status poll can enter `SEND` (46_sequencer R140). -/
theorem onReply_phase_ne_send (hp : s.phase ≠ .poll) (r : Word) : (s.onReply r).phase ≠ .send := by
  cases h : s.phase with
  | idle => simp [State.onReply, h]
  | cfg => simp [State.onReply, h, State.onReplyCfg]
  | poll => exact absurd h hp
  | drain =>
    simp only [State.onReply, h]
    exact phase_ne_send_of_captures (hit := fun m => { m with miss := 0 })
      (miss := fun m => { m with miss := m.miss + 1 }) (onReplyDrain_cases s r) (by simp [h]) (by simp [h])
  | step =>
    simp only [State.onReply, h]
    exact phase_ne_send_of_captures (hit := fun m => { m with phase := .poll })
      (miss := fun m => { m with phase := .poll }) (onReplyStep_cases s r) nofun nofun
  | send =>
    simp only [State.onReply, h]
    exact phase_ne_send_of_captures (hit := fun m => m.startDrain .put) (miss := State.finishPut)
      (onReplySend_cases s r) nofun (finishPut_phase_ne_send s)

/-- A move that enters `SEND` is made in the wait loop (46_sequencer R145). -/
theorem poll_of_moves_send (h : Moves s t) (ht : t.phase = .send) : s.phase = .poll := by
  cases h with
  | waits hp => simp [hp] at ht
  | @serves i rest _ hp hexec =>
    exact absurd ht (exec_idle_phase_ne_send (s := { s with requests := rest }) hp hexec)
  | @replied answers wire handles handleOps r hc =>
    by_contra hp
    exact onReply_phase_ne_send (s := s.withPorts answers wire handles handleOps) hp r ht
  | failed => cases ht
  | drained hp => exact absurd ht (finishDrain_phase_ne_send s)

/-- The reply to a status poll that enters `SEND` says ready: `R = 0` and `T = 1` (46_sequencer R140). -/
theorem ready_of_onReply_send {r : Word} (hp : s.phase = .poll) (h : (s.onReply r).phase = .send) :
    s.replyR r = false ∧ s.replyT r = true := by
  simp only [State.onReply, hp, State.onReplyPoll] at h
  split_ifs at h with hR hT
  exact ⟨Bool.eq_false_iff.2 hR, hT⟩

/-- A step that enters `SEND` has polled the status and found the transmitter ready. -/
theorem step_enters_send (h : step s = .next t) (ht : t.phase = .send) :
    ∃ r, t.wire = s.wire ++ [⟨encodeReadConfig s.cfg, .word r⟩] ∧ s.replyR r = false ∧ s.replyT r = true := by
  cases hr : s.rst with
  | true =>
    simp only [step, hr, if_true] at h
    cases h
    cases ht
  | false =>
    have hp := poll_of_moves_send (moves_of_step hr h) ht
    have hi : s.nextCommand = some .readConf := by simp [State.nextCommand, hp]
    cases (step_eq_exchange hr (by simp [hp]) hi rfl).symm.trans h
    rcases exchange_cases s (encodeReadConfig s.cfg) with ⟨r, -, he⟩ | ⟨-, he⟩ <;> rw [he] at ht ⊢
    · exact ⟨r, congrArg Link.wire (onReply_link _ r), ready_of_onReply_send (s := s.exchanged _ _) hp ht⟩
    · cases ht

/-! ## A byte is sent after a ready status -/

/-- The exchange of a command row is a write-data exchange if the row is (30_encoding R65). -/
theorem isWriteData_of_commandWord {cfg : Config} {w : Word} (hwf : cfg.WF) (hw : commandWord cfg i = some w)
    (a : Answer) : isWriteData cfg ⟨w, a⟩ = decide (i.commandKind = some .writeData) := by
  rw [commandKind_of_commandWord hwf hw, isWriteData]
  simp

/-- Only phase `SEND` sends a byte (46_sequencer R135). -/
theorem nextCommand_writeData (hi : s.nextCommand = some i) (hk : i.commandKind = some .writeData) :
    s.phase = .send := by
  unfold State.nextCommand at hi
  split at hi
  case h_6 hp => exact hp
  case h_3 => split at hi <;> cases hi; cases hk
  all_goals cases hi
  all_goals cases hk

/-- A status poll answered with `R = 0` and `T = 1` is a ready status. -/
theorem isReady_readConf {cfg : Config} {r : Word} (hwf : cfg.WF) (hR : decodeReceiverHasData cfg r = false)
    (hT : decodeTransmitterReady cfg r = true) : isReady cfg ⟨encodeReadConfig cfg, .word r⟩ = true := by
  have hkind : commandKind cfg (encodeReadConfig cfg) = .readConf := commandKind_commandOf hwf .readConf 0
  simp [isReady, hkind, hR, hT]

/-- One exchange more keeps the rule if it sends no byte or comes directly after a ready status. -/
theorem sendsWhenReady_append {cfg : Config} {before : Option Exchange} {xs : List Exchange} {x : Exchange}
    (hxs : sendsWhenReady cfg before xs = true)
    (hx : isWriteData cfg x = true → (xs.getLast?.or before).any (isReady cfg) = true) :
    sendsWhenReady cfg before (xs ++ [x]) = true := by
  induction xs generalizing before with
  | nil =>
    cases h : isWriteData cfg x with
    | false => simp [sendsWhenReady, h]
    | true => simpa [sendsWhenReady, h] using hx h
  | cons y ys ih =>
    rw [sendsWhenReady, Bool.and_eq_true] at hxs
    obtain ⟨hy, hys⟩ := hxs
    rw [List.cons_append, sendsWhenReady, hy, Bool.true_and]
    refine ih hys fun h => ?_
    have hlast : (y :: ys).getLast?.or before = ys.getLast?.or (some y) := by
      rw [List.getLast?_cons]
      cases ys.getLast? <;> rfl
    rw [← hlast]
    exact hx h

theorem neverSendsUnready_iff :
    s.neverSendsUnready = true ↔
      sendsWhenReady s.cfg none s.wire = true ∧
        (s.phase = .send → s.wire.getLast?.any (isReady s.cfg) = true) := by
  simp [State.neverSendsUnready, Decidable.imp_iff_not_or]

end

/-- Settles O39: a step that sends a byte is one of phase `SEND`, and `SEND` is entered after a ready status alone. -/
theorem bytesAreSentOnlyAfterAReadyStatus : Obligations.BytesAreSentOnlyAfterAReadyStatus := by
  intro s t hwf hs h
  obtain ⟨hsent, hready⟩ := neverSendsUnready_iff.1 hs
  rw [neverSendsUnready_iff]
  have hcfg : t.cfg = s.cfg := by
    rcases step_link h with hlink | ⟨i, w, -, -, hlink⟩ <;> exact congrArg Link.cfg hlink
  rw [hcfg]
  constructor
  · rcases step_link h with hlink | ⟨i, w, hi, hw, hlink⟩ <;>
      rw [show t.wire = _ from congrArg Link.wire hlink]
    · exact hsent
    · refine sendsWhenReady_append hsent fun hx => ?_
      rw [isWriteData_of_commandWord hwf hw, decide_eq_true_eq] at hx
      rw [Option.or_none]
      exact hready (nextCommand_writeData hi hx)
  · intro ht
    obtain ⟨r, hwire, hR, hT⟩ := step_enters_send h ht
    rw [hwire, List.getLast?_concat]
    exact isReady_readConf hwf hR hT

end Sys2Proof.Machine

/-! # The byte operations (43_byte_api R101 to R105)

What a part of `putByte` that returns has put on the wire is said by `Made`: the wait loop ends with a ready status, and
the Drain Loop sends read-data words alone. A Drain Loop whose replies carry no byte counts them in the Miss Counter and
does nothing else (`works_of_quiet_replies`), so that an operation it serves ends with the ring as it was. -/

namespace Sys2Proof.Machine

/-! ## Acceptance -/

section
variable {s : State}

/-- Past the gate a request in IDLE is latched and served (46_sequencer R136). -/
theorem accept_gated_of_open (hp : s.phase = .idle) (ho : s.isOpen = true) (hv : s.ovr = false) (i : Instr)
    (serve : State → State) : (s.accept i fun u => u.gated serve) = serve { s with arg := i } := by
  have hgate : { s with arg := i }.gate = none := by simp [State.gate, ho, hv]
  rw [State.accept, if_pos hp, State.gated, hgate]

/-- A `length` that has an encoding is not changed by the width of its port (44_block_api R117). -/
theorem lengthOperand_of_wf {cfg : Config} {len : Int} (hcfg : cfg.WF) (hlen : (Instr.read len).WF cfg) :
    lengthOperand cfg len = len := by
  obtain ⟨-, -, -, hlenW, -⟩ := hcfg
  obtain ⟨hlo, hhi⟩ : -(2 ^ (cfg.lenW - 1) : Int) ≤ len ∧ len < (2 ^ (cfg.lenW - 1) : Int) := by
    simpa [Instr.WF, Instr.formError] using hlen
  have hpos : (0 : Int) < (2 ^ cfg.lenW : Nat) := by positivity
  calc lengthOperand cfg len
      = signExtend cfg.lenW (len % (2 ^ cfg.lenW : Nat)).toNat := by
        rw [signExtend, Int.toNat_of_nonneg (Int.emod_nonneg _ hpos.ne'), Int.emod_bmod, lengthOperand]
    _ = len := signExtend_pattern (by omega) hlo hhi

end

/-- Settles O19: the request is latched past the gate, and serving it enters the wait loop. -/
theorem putByteEntersTheWaitLoop : Obligations.PutByteEntersTheWaitLoop :=
  fun _ _ hp ho hv => congrArg _ (accept_gated_of_open hp ho hv _ _)

/-- Settles O20: the request is latched past the gate, and serving it enters the Drain Loop. -/
theorem readingOperationsEnterADrainLoop : Obligations.ReadingOperationsEnterADrainLoop := by
  intro s hp ho hv hcfg
  refine ⟨congrArg _ (accept_gated_of_open hp ho hv _ _), congrArg _ (accept_gated_of_open hp ho hv _ _),
    congrArg _ (accept_gated_of_open hp ho hv _ _), fun len hlen => ?_⟩
  rw [exec, execRead, lengthOperand_of_wf hcfg hlen, accept_gated_of_open hp ho hv]
  rfl

/-! ## What a part of `putByte` puts on the wire -/

section
variable {α β : Type} {s t u : State} {xs ys : List Exchange}

/-- From `s` to `t` the exchanges `xs` are made, in this order, under the same parameters. -/
structure Made (s : State) (xs : List Exchange) (t : State) : Prop where
  cfg_eq : t.cfg = s.cfg
  wire_eq : t.wire = s.wire ++ xs

theorem Made.of_link (h : t.link = s.link) : Made s [] t :=
  ⟨congrArg Link.cfg h, (congrArg Link.wire h).trans (List.append_nil _).symm⟩

theorem made_exchanged (s : State) (w : Word) (a : Answer) : Made s [⟨w, a⟩] (s.exchanged w a) := ⟨rfl, rfl⟩

theorem Made.trans (h : Made s xs t) (h' : Made t ys u) : Made s (xs ++ ys) u :=
  ⟨h'.cfg_eq.trans h.cfg_eq, by rw [h'.wire_eq, h.wire_eq, List.append_assoc]⟩

/-- Statements in sequence return if each does (00_scope R8). -/
theorem andThen_eq_ret_iff {x : Run α} {f : α → State → Run β} {b : β} :
    x.andThen f = .ret b t ↔ ∃ a u, x = .ret a u ∧ f a u = .ret b t := by
  cases x <;> simp [Run.andThen]

theorem callXchg_eq_ret {w r : Word} (h : callXchg w s = .ret r t) : t = s.exchanged w (.word r) := by
  unfold callXchg at h
  split at h <;> cases h
  rfl

/-- A capture makes no exchange (41_drain R82). -/
theorem callCapture_link {r : Word} {hit : Bool} (h : callCapture r s = .ret hit t) : t.link = s.link := by
  unfold callCapture at h
  rcases capture_cases s r with ⟨-, hc⟩ | ⟨-, -, hc⟩ | ⟨-, -, hc⟩ <;> rw [hc] at h <;> cases h <;> rfl

/-- `drainStep` sends the read-data word (41_drain R80). -/
theorem callDrainStep_made {hit : Bool} (h : callDrainStep s = .ret hit t) :
    ∃ r, Made s [⟨encodeReadData s.cfg, .word r⟩] t := by
  obtain ⟨r, u, hx, hc⟩ := andThen_eq_ret_iff.1 h
  obtain rfl := callXchg_eq_ret hx
  exact ⟨r, (made_exchanged s _ _).trans (.of_link (callCapture_link hc))⟩

/-- A Drain Loop that returns has sent read-data words alone (41_drain R83). -/
theorem callFetchLoop_made {fuel miss : Nat} (h : callFetchLoop fuel miss s = .ret () t) :
    ∃ late, Made s late t ∧ ∀ x ∈ late, x.sent = encodeReadData s.cfg := by
  induction fuel generalizing s miss with
  | zero => cases h
  | succ fuel ih =>
    rcases Nat.lt_or_ge miss s.maxMisses with hm | hm
    · rw [callFetchLoop_of_lt hm] at h
      obtain ⟨hit, u, hstep, hloop⟩ := andThen_eq_ret_iff.1 h
      obtain ⟨r, hfirst⟩ := callDrainStep_made hstep
      obtain ⟨late, hlate, hsent⟩ := ih hloop
      rw [hfirst.cfg_eq] at hsent
      exact ⟨_, hfirst.trans hlate, List.forall_mem_cons.2 ⟨rfl, hsent⟩⟩
    · rw [callFetchLoop_of_le hm] at h
      cases h
      exact ⟨[], .of_link rfl, nofun⟩

/-- From `s` to `t` no byte is sent, and the last exchange is a status poll answered with the ready status `r`. -/
structure PollsReady (s : State) (early : List Exchange) (r : Word) (t : State) : Prop where
  made : Made s (early ++ [⟨encodeReadConfig s.cfg, .word r⟩]) t
  no_data : decodeReceiverHasData s.cfg r = false
  ready : decodeTransmitterReady s.cfg r = true
  sends_none : ∀ x ∈ early, isWriteData s.cfg x = false

theorem PollsReady.after {r : Word} (h : PollsReady u ys r t) (hxs : Made s xs u)
    (hnone : ∀ x ∈ xs, isWriteData s.cfg x = false) : PollsReady s (xs ++ ys) r t := by
  obtain ⟨hmade, hR, hT, hsends⟩ := h
  rw [hxs.cfg_eq] at hmade hR hT hsends
  exact ⟨List.append_assoc xs ys _ ▸ hxs.trans hmade, hR, hT, List.forall_mem_append.2 ⟨hnone, hsends⟩⟩

/-- The wait loop that returns has sent no byte and ends with a ready status (43_byte_api R101). -/
theorem callWaitLoop_pollsReady {fuel : Nat} (hwf : s.cfg.WF) (h : callWaitLoop fuel s = .ret () t) :
    ∃ early r, PollsReady s early r t := by
  induction fuel generalizing s with
  | zero => cases h
  | succ fuel ih =>
    obtain ⟨r, u, hx, hrest⟩ := andThen_eq_ret_iff.1 h
    obtain rfl := callXchg_eq_ret hx
    have hpoll := made_exchanged s (encodeReadConfig s.cfg) (.word r)
    have hnone : isWriteData s.cfg ⟨encodeReadConfig s.cfg, .word r⟩ = false :=
      isWriteData_of_commandWord (i := .readConf) hwf rfl _
    split_ifs at hrest with hR hT
    · obtain ⟨hit, v, hstep, hloop⟩ := andThen_eq_ret_iff.1 hrest
      obtain ⟨r', hdrain⟩ := callDrainStep_made hstep
      have hboth := hpoll.trans hdrain
      have hnone' : isWriteData s.cfg ⟨encodeReadData s.cfg, .word r'⟩ = false :=
        isWriteData_of_commandWord (i := .readData) hwf rfl _
      obtain ⟨early, r'', hready⟩ := ih (hboth.cfg_eq ▸ hwf) hloop
      exact ⟨_, r'', hready.after hboth (by simp [hnone, hnone'])⟩
    · cases hrest
      exact ⟨[], r, hpoll, Bool.eq_false_iff.2 hR, hT, nofun⟩
    · obtain ⟨early, r'', hready⟩ := ih (s := s.exchanged _ _) hwf hrest
      exact ⟨_, r'', hready.after hpoll (by simp [hnone])⟩

/-- After the wait loop, `putByte` sends its byte once, and then drains at most (43_byte_api R101). -/
theorem callPutBody_made {fuel : Nat} {b : Byte} (hwf : s.cfg.WF) (h : callPutBody fuel b s = .ret () t) :
    ∃ early r r' late u, PollsReady s early r u ∧ Made u (⟨encodeWriteData s.cfg b, .word r'⟩ :: late) t ∧
      ∀ x ∈ late, x.sent = encodeReadData s.cfg := by
  obtain ⟨⟨⟩, u, hwait, hrest⟩ := andThen_eq_ret_iff.1 h
  obtain ⟨early, r, hready⟩ := callWaitLoop_pollsReady hwf hwait
  obtain ⟨r', v, hx, hrest⟩ := andThen_eq_ret_iff.1 hrest
  obtain rfl := callXchg_eq_ret hx
  obtain ⟨hit, v, hcapture, hrest⟩ := andThen_eq_ret_iff.1 hrest
  have hsend := (made_exchanged u (encodeWriteData u.cfg b) (.word r')).trans (.of_link (callCapture_link hcapture))
  have hcfg : u.cfg = s.cfg := hready.made.cfg_eq
  suffices hdrain : ∃ late, Made v late t ∧ ∀ x ∈ late, x.sent = encodeReadData v.cfg by
    obtain ⟨late, hlate, hsent⟩ := hdrain
    rw [hsend.cfg_eq, hcfg] at hsent
    exact ⟨early, r, r', late, u, hready, hcfg ▸ hsend.trans hlate, hsent⟩
  cases hit with
  | true => exact callFetchLoop_made hrest
  | false =>
    cases hrest
    exact ⟨[], .of_link rfl, nofun⟩

end

/-- Settles O52: the wait loop ends with the ready status, and the write-data exchange follows it. -/
theorem putByteSendsItsByteOnce : Obligations.PutByteSendsItsByteOnce := by
  intro s t fuel b hwf h
  obtain ⟨early, r, r', late, u, hready, hsend, hlate⟩ := callPutBody_made hwf h
  refine ⟨early, late, r, r', ?_, hready.no_data, hready.ready, hready.sends_none, hlate⟩
  rw [(hready.made.trans hsend).wire_eq]
  simp

/-! ## A Drain Loop without data -/

section
variable {s t : State} {replies : List Word} {more : List Answer}

/-- A Drain Loop has read these replies, none of which carried a byte. -/
def State.missed (s : State) (replies : List Word) (more : List Answer) : State :=
  { s with
    answers := more
    wire := s.wire ++ replies.map fun r => ⟨encodeReadData s.cfg, .word r⟩
    miss := s.miss + replies.length }

/-- A reply without a byte in a Drain Loop is a miss (46_sequencer R138). -/
theorem step_of_quiet_reply {r : Word} (hr : s.rst = false) (hp : s.phase = .drain) (hm : s.miss < s.maxMisses)
    (ha : s.answers = .word r :: more) (hR : s.replyR r = false) : step s = .next (s.missed [r] more) := by
  have hi : s.nextCommand = some .readData := by simp [State.nextCommand, hp, hm]
  rw [step_eq_exchange hr (by simp [hp]) hi rfl, exchange_of_word (answer_scripted s _ r more ha)]
  have hmiss : (s.received r).onReplyDrain r = { s.received r with miss := s.miss + 1 } := by
    rcases onReplyDrain_cases (s.received r) r with ⟨hhit, -⟩ | ⟨hhit, -⟩ | ⟨-, h⟩
    · exact absurd (hhit.symm.trans hR) (by decide)
    · exact absurd (hhit.symm.trans hR) (by decide)
    · exact h
  have hreply : s.exchangeReply (encodeReadData s.cfg) r = (s.received r).onReplyDrain r := by
    simp [State.exchangeReply, State.onAnswer, State.onReply, State.received, hp]
  rw [hreply, hmiss]
  simp [State.missed, State.received, State.exchanged, ha]

/-- Each reply without a byte takes one step of the Drain Loop, as long as the budget allows (41_drain R83). -/
theorem works_of_quiet_replies (hr : s.rst = false) (hp : s.phase = .drain)
    (hm : s.miss + replies.length ≤ s.maxMisses) (ha : s.answers = replies.map .word ++ more)
    (hR : ∀ r ∈ replies, s.replyR r = false) : Works replies.length s (s.missed replies more) := by
  induction replies generalizing s with
  | nil =>
    have hsame : s.missed [] more = s := by
      obtain rfl : s.answers = more := ha
      simp [State.missed]
    rw [hsame]
    exact .refl s
  | cons r rest ih =>
    rw [List.length_cons] at hm
    obtain ⟨hRr, hRrest⟩ := List.forall_mem_cons.1 hR
    have hstep := step_of_quiet_reply hr hp (by omega) ha hRr
    have hsame : (s.missed [r] (rest.map .word ++ more)).missed rest more = s.missed (r :: rest) more := by
      simp [State.missed]
      omega
    rw [← hsame]
    refine .head (by simp [hp]) hstep (ih hr hp ?_ rfl hRrest)
    change s.miss + 1 + rest.length ≤ s.maxMisses
    omega

/-- A Drain Loop whose `maxMisses` replies carry no byte ends after one step more (46_sequencer R139). -/
theorem reaches_finishDrain_of_quiet_replies (hr : s.rst = false) (hp : s.phase = .drain) (hm : s.miss = 0)
    (hlen : replies.length = s.maxMisses) (ha : s.answers = replies.map .word ++ more)
    (hR : ∀ r ∈ replies, s.replyR r = false) :
    Reaches (s.maxMisses + 1) s (s.missed replies more).finishDrain := by
  have hworks := works_of_quiet_replies hr hp (by omega) ha hR
  rw [← hlen, hworks.reaches_add, reaches_succ (step_eq_finishDrain (s := s.missed replies more) hr hp ?_),
    reaches_zero]
  change s.maxMisses ≤ s.miss + replies.length
  omega

/-- `pop` takes the first of the unread bytes, if there is one. -/
theorem pop_contents (h : s.InRing) : s.pop.1 = s.contents.head? ∧ s.pop.2.contents = s.contents.tail := by
  rcases pop_cases s with ⟨he, hpop⟩ | ⟨hne, hpop⟩ <;> rw [hpop]
  · rw [(contents_eq_nil_iff h).2 he]
    exact ⟨rfl, rfl⟩
  · rw [contents_eq_cons h hne]
    exact ⟨rfl, rfl⟩

theorem pop_delivered (s : State) : s.pop.2.delivered = s.delivered := by
  rcases pop_cases s with ⟨-, h⟩ | ⟨-, h⟩ <;> rw [h]

theorem contents_resetEmpty (s : State) : s.resetEmpty.contents = [] :=
  List.eq_nil_of_length_eq_zero ((contents_length _).trans (len_eq_zero_of_empty rfl))

/-- The request `i` has been accepted and its Drain Loop begins (46_sequencer R136). -/
def State.drainsFor (s : State) (i : Instr) (rest : List Instr) (ret : Ret) : State :=
  { s with requests := rest, arg := i, miss := 0, ret := ret, phase := .drain }

/-- An operation served by a quiet Drain Loop ends after its acceptance, `maxMisses` exchanges and the end of the
loop. -/
theorem finishDrain_after_quiet_drain {i : Instr} {rest : List Instr} {ret : Ret} (hr : s.rst = false)
    (hp : s.phase = .idle) (hq : s.requests = i :: rest)
    (hexec : exec i { s with requests := rest } = .next (s.drainsFor i rest ret))
    (hlen : replies.length = s.maxMisses) (ha : s.answers = replies.map .word ++ more)
    (hR : ∀ r ∈ replies, s.replyR r = false)
    (ht : ((s.drainsFor i rest ret).missed replies more).finishDrain = t) :
    Reaches (s.maxMisses + 2) s t ∧ t.requests = rest ∧ t.wire.length = s.wire.length + s.maxMisses := by
  subst ht
  refine ⟨?_, finishDrain_requests _, ?_⟩
  · rw [reaches_succ ((step_of_request hr hp hq).trans hexec)]
    exact reaches_finishDrain_of_quiet_replies (s := s.drainsFor i rest ret) hr rfl rfl hlen ha hR
  · have hwire : ((s.drainsFor i rest ret).missed replies more).finishDrain.wire =
        s.wire ++ replies.map fun r => ⟨encodeReadData s.cfg, .word r⟩ := congrArg Link.wire (finishDrain_link _)
    rw [hwire, List.length_append, List.length_map, hlen]

end

/-- Settles O54: the drained block has the ring of `s`, from which the end of the loop takes the result. -/
theorem readingOperationsAfterAQuietDrain : Obligations.ReadingOperationsAfterAQuietDrain := by
  intro s i rest replies more hinv hr hp ho hv hq hlen ha hR hi
  obtain ⟨hgetByte, havailable, hclear, -⟩ :=
    readingOperationsEnterADrainLoop { s with requests := rest } hp ho hv hinv.cfg_wf
  rcases hi with rfl | rfl | rfl
  · obtain ⟨hreach, hrest, hwire⟩ := finishDrain_after_quiet_drain hr hp hq hgetByte hlen ha hR rfl
    obtain ⟨hbyte, htail⟩ := pop_contents (s := (s.drainsFor .getByte rest .get).missed replies more)
      ⟨hinv.head_lt, hinv.tail_lt⟩
    refine ⟨_, _, hreach, rfl, hrest, hwire, congrArg (· ++ _) (pop_delivered _), fun _ => ⟨?_, htail⟩, nofun, nofun⟩
    rw [hbyte]
    rfl
  · obtain ⟨hreach, hrest, hwire⟩ := finishDrain_after_quiet_drain hr hp hq havailable hlen ha hR rfl
    refine ⟨_, _, hreach, rfl, hrest, hwire, rfl, nofun, fun _ => ⟨?_, rfl⟩, nofun⟩
    rw [contents_length]
    rfl
  · obtain ⟨hreach, hrest, hwire⟩ := finishDrain_after_quiet_drain hr hp hq hclear hlen ha hR rfl
    exact ⟨_, _, hreach, rfl, hrest, hwire, rfl, nofun, nofun, fun _ => ⟨rfl, contents_resetEmpty _, rfl, rfl⟩⟩

end Sys2Proof.Machine

/-! # The block operation `write` (44_block_api R115, R119)

Against an environment that is ready and silent (`AnswersReady`) each byte takes two exchange steps: the status poll,
which enters `SEND`, and the write-data exchange, after which `finishPut` latches the next byte or ends the operation.
The steps of a `write` are an induction on the bytes left to send. -/

namespace Sys2Proof.Machine

/-! ## Acceptance -/

section
variable {s : State} {bytes : List Byte}

/-- Past the gate a `write` of an admissible length latches its first byte and enters the wait loop (46_sequencer
R136). -/
theorem exec_write_of_length_ok {b : Byte} {rest : List Byte} (hp : s.phase = .idle) (ho : s.isOpen = true)
    (hv : s.ovr = false) (hb : bytes = b :: rest) (hmax : bytes.length ≤ s.cfg.maxWrite) :
    exec (.write bytes) s = .next { s with arg := .write bytes, bi := 0, txb := b, phase := .poll } := by
  have hne : bytes.length ≠ 0 := by simp [hb]
  rw [exec, execWrite, accept_gated_of_open hp ho hv, if_neg hne, if_neg (Nat.not_lt.2 hmax)]
  simp [hb, byteAt]

/-- Past the gate a `write` of any other length is refused (44_block_api R115). -/
theorem exec_write_of_length_bad (hp : s.phase = .idle) (ho : s.isOpen = true) (hv : s.ovr = false)
    (hlen : bytes = [] ∨ s.cfg.maxWrite < bytes.length) :
    exec (.write bytes) s = .next { s with arg := .write bytes, delivered := s.delivered ++ [.error .validation] } := by
  have hfail : { s with arg := .write bytes }.fail .validation =
      { s with arg := .write bytes, delivered := s.delivered ++ [.error .validation] } := by
    simp [State.fail, State.done, hp]
  rw [exec, execWrite, accept_gated_of_open hp ho hv, ← hfail]
  rcases hlen with rfl | hlong
  · rfl
  · rw [if_pos (c := s.cfg.maxWrite < bytes.length) hlong, ite_self]

end

/-- Settles O21: the length is checked past the gate, and the request is served or refused in its acceptance step. -/
theorem writeValidatesItsLengthThenSends : Obligations.WriteValidatesItsLengthThenSends :=
  fun _ _ hp ho hv =>
    ⟨fun _ _ hb hmax => exec_write_of_length_ok hp ho hv hb hmax, exec_write_of_length_bad hp ho hv⟩

/-! ## One byte -/

section
variable {s t : State} {r r' : Word} {later more : List Answer} {bytes left : List Byte}

/-- A ready status without data leads from the poll to the transmission (46_sequencer R140). -/
theorem step_of_ready_status (hr : s.rst = false) (hp : s.phase = .poll) (ha : s.answers = .word r :: later)
    (hR : r.getLsbD s.cfg.rBit = false) (hT : r.getLsbD s.cfg.tBit = true) :
    step s = .next { s.exchanged (encodeReadConfig s.cfg) (.word r) with phase := .send } := by
  have hi : s.nextCommand = some .readConf := by simp [State.nextCommand, hp]
  rw [step_eq_exchange hr (by simp [hp]) hi rfl, exchange_of_word (answer_scripted s _ r later ha),
    State.exchangeReply, State.onAnswer, onReply_of_poll (s := s.exchanged _ _) hp]
  simp [State.exchanged, hR, hT]

/-- In `SEND` a reply without data ends the byte (46_sequencer R142). -/
theorem onReply_of_quiet_transmission (hp : s.phase = .send) (hR : s.replyR r = false) :
    s.onReply r = s.finishPut := by
  rcases onReplySend_cases s r with ⟨hdata, -⟩ | ⟨hdata, -⟩ | ⟨-, hend⟩
  · simp [hR] at hdata
  · simp [hR] at hdata
  · simp [State.onReply, hp, hend]

/-- The transmission with its reply is one step (46_sequencer R135, R142). -/
theorem step_of_quiet_transmission (hr : s.rst = false) (hp : s.phase = .send) (ha : s.answers = .word r :: later)
    (hR : r.getLsbD s.cfg.rBit = false) :
    step s = .next (s.exchanged (encodeWriteData s.cfg s.txb) (.word r)).finishPut := by
  have hi : s.nextCommand = some (.writeData s.txb) := by simp [State.nextCommand, hp]
  rw [step_eq_exchange hr (by simp [hp]) hi rfl, exchange_of_word (answer_scripted s _ r later ha),
    State.exchangeReply, State.onAnswer, onReply_of_quiet_transmission (s := s.exchanged _ _) hp hR]

/-- The byte `txb` has been sent after one status poll: `r` answered the poll, `r'` the transmission. -/
def State.byteSent (s : State) (r r' : Word) : State :=
  { s.exchanged (encodeReadConfig s.cfg) (.word r) with phase := .send }.exchanged
    (encodeWriteData s.cfg s.txb) (.word r')

theorem byteSent_answers (ha : s.answers = .word r :: .word r' :: later) : (s.byteSent r r').answers = later := by
  simp [State.byteSent, State.exchanged, ha]

/-- Against a ready status and a quiet transmission one byte takes two steps (70_reset R199). -/
theorem works_of_ready_byte {n : Nat} (hr : s.rst = false) (hp : s.phase = .poll)
    (ha : s.answers = .word r :: .word r' :: later) (hR : r.getLsbD s.cfg.rBit = false)
    (hT : r.getLsbD s.cfg.tBit = true) (hR' : r'.getLsbD s.cfg.rBit = false)
    (h : Works n (s.byteSent r r').finishPut t) : Works (n + 2) s t := by
  have hsend := step_of_quiet_transmission (s := { s.exchanged (encodeReadConfig s.cfg) (.word r) with phase := .send })
    hr rfl (congrArg List.tail ha) hR'
  exact .head (by simp [hp]) (step_of_ready_status hr hp ha hR hT) (.head (by simp) hsend h)

/-- After the last byte of a `write` the operation ends (46_sequencer R143). -/
theorem finishPut_of_last_byte (harg : s.arg = .write bytes) (hleft : bytes.drop (s.bi + 1) = []) :
    s.finishPut = s.done .ok := by
  rcases finishPut_cases s with ⟨bytes', hw, hlt, -⟩ | ⟨-, he⟩
  · obtain rfl : bytes = bytes' := by simpa using harg.symm.trans hw
    have hle := List.drop_eq_nil_iff.1 hleft
    omega
  · exact he

/-- After any other byte of a `write` the next one is latched (46_sequencer R143). -/
theorem finishPut_of_next_byte {b : Byte} (harg : s.arg = .write bytes) (hleft : bytes.drop (s.bi + 1) = b :: left) :
    s.finishPut = { s with bi := s.bi + 1, txb := b, phase := .poll } := by
  have hget : bytes[s.bi + 1]? = some b := by rw [← List.head?_drop, hleft]; rfl
  obtain ⟨hlt, -⟩ := List.getElem?_eq_some_iff.1 hget
  rcases finishPut_cases s with ⟨bytes', hw, -, he⟩ | ⟨hle, -⟩
  · obtain rfl : bytes = bytes' := by simpa using harg.symm.trans hw
    have hbyte : byteAt bytes (s.bi + 1) = b := by simp [byteAt, hget]
    rw [he, hbyte]
  · have hle := hle bytes harg
    omega

/-! ## The bytes left -/

/-- The answers let `n` bytes pass, each with a ready status and a quiet transmission, and go on as `more` (70_reset
R199: `T` counts in the status alone). -/
def AnswersReady (cfg : Config) (more : List Answer) : Nat → List Answer → Prop
  | 0, answers => answers = more
  | n + 1, answers =>
    ∃ r r' later, answers = .word r :: .word r' :: later ∧ r.getLsbD cfg.rBit = false ∧ r.getLsbD cfg.tBit = true ∧
      r'.getLsbD cfg.rBit = false ∧ AnswersReady cfg more n later

/-- Replies that are all ready and without data let a byte pass by two. -/
theorem answersReady_of_replies {cfg : Config} {n : Nat} {replies : List Word} (hlen : replies.length = 2 * n)
    (h : ∀ r ∈ replies, r.getLsbD cfg.rBit = false ∧ r.getLsbD cfg.tBit = true) :
    AnswersReady cfg more n (replies.map .word ++ more) := by
  induction n generalizing replies with
  | zero =>
    obtain rfl := List.eq_nil_of_length_eq_zero hlen
    rfl
  | succ n ih =>
    match replies, hlen with
    | r :: r' :: rest, hlen =>
      obtain ⟨⟨hR, hT⟩, hrest⟩ := List.forall_mem_cons.1 h
      obtain ⟨⟨hR', -⟩, hrest⟩ := List.forall_mem_cons.1 hrest
      exact ⟨r, r', _, rfl, hR, hT, hR', ih (by simpa [Nat.mul_succ] using hlen) hrest⟩

/-- Two exchanges for each byte, in order: a status poll, then the byte (44_block_api R115). -/
def pollThenSend (cfg : Config) (bytes : List Byte) : List Word :=
  bytes.flatMap fun b => [encodeReadConfig cfg, encodeWriteData cfg b]

/-- From `s` to `t` the bytes `left` are sent, each after one status poll; the operation has ended with `Ok` and the
ring is as it was. -/
structure WritesOut (s : State) (left : List Byte) (more : List Answer) (t : State) : Prop where
  idle : t.phase = .idle
  storage_eq : t.storage = s.storage
  port_eq : t.port = ⟨s.requests, s.delivered ++ [.ok]⟩
  answers_eq : t.answers = more
  sent_eq : t.wire.map Exchange.sent = s.wire.map Exchange.sent ++ pollThenSend s.cfg left

/-- After the last byte the operation ends with `Ok`. -/
theorem writesOut_last_byte (ha : (s.byteSent r r').answers = more) :
    WritesOut s [s.txb] more ((s.byteSent r r').done .ok) where
  idle := rfl
  storage_eq := rfl
  port_eq := rfl
  answers_eq := ha
  sent_eq := by simp [State.byteSent, State.exchanged, pollThenSend]

/-- A byte sent before the others is the first of all. -/
theorem WritesOut.after_byte {b : Byte}
    (h : WritesOut { s.byteSent r r' with bi := s.bi + 1, txb := b, phase := .poll } left more t) :
    WritesOut s (s.txb :: left) more t where
  idle := h.idle
  storage_eq := h.storage_eq
  port_eq := h.port_eq
  answers_eq := h.answers_eq
  sent_eq := by
    rw [h.sent_eq]
    simp [State.byteSent, State.exchanged, pollThenSend]

/-- A `write` in its wait loop sends the bytes left, in two steps each. -/
theorem exists_works_writesOut (hr : s.rst = false) (hp : s.phase = .poll) (harg : s.arg = .write bytes)
    (hleft : bytes.drop (s.bi + 1) = left) (ha : AnswersReady s.cfg more (left.length + 1) s.answers) :
    ∃ t, Works (2 * (left.length + 1)) s t ∧ WritesOut s (s.txb :: left) more t := by
  induction left generalizing s with
  | nil =>
    obtain ⟨r, r', later, ha, hR, hT, hR', rfl⟩ := ha
    have hend := finishPut_of_last_byte (s := s.byteSent r r') harg hleft
    exact ⟨_, works_of_ready_byte hr hp ha hR hT hR' (.refl _), hend ▸ writesOut_last_byte (byteSent_answers ha)⟩
  | cons b left ih =>
    obtain ⟨r, r', later, ha, hR, hT, hR', hlater⟩ := ha
    have hnext := finishPut_of_next_byte (s := s.byteSent r r') harg hleft
    have hrest : bytes.drop (s.bi + 1 + 1) = left := by rw [← List.drop_drop, hleft]; rfl
    obtain ⟨t, hworks, hout⟩ :=
      ih (s := { s.byteSent r r' with bi := s.bi + 1, txb := b, phase := .poll }) hr rfl harg hrest
        ((byteSent_answers ha).symm ▸ hlater)
    exact ⟨t, works_of_ready_byte hr hp ha hR hT hR' (hnext ▸ hworks), hout.after_byte⟩

end

/-- Settles O53: the acceptance latches the first byte, and the bytes left are all of them. -/
theorem writeSendsEveryByteInOrder : Obligations.WriteSendsEveryByteInOrder := by
  intro s bytes rest replies more hr hp ho hv hq hne hmax hlen ha hready
  obtain ⟨b, left, rfl⟩ := List.exists_cons_of_ne_nil hne
  have haccept := (step_of_request hr hp hq).trans
    (exec_write_of_length_ok (s := { s with requests := rest }) hp ho hv rfl hmax)
  obtain ⟨t, hworks, hout⟩ := exists_works_writesOut (left := left) (more := more)
    (s := { s with requests := rest, arg := .write (b :: left), bi := 0, txb := b, phase := .poll })
    hr rfl rfl rfl (ha ▸ answersReady_of_replies hlen hready)
  refine ⟨t, ?_, hout.idle, congrArg HostPort.requests hout.port_eq, hout.answers_eq,
    congrArg HostPort.delivered hout.port_eq, congrArg Storage.head hout.storage_eq,
    congrArg Storage.tail hout.storage_eq, congrArg Storage.buf hout.storage_eq,
    (congrArg Storage.ovr hout.storage_eq).trans hv, hout.sent_eq⟩
  rw [Nat.add_comm, reaches_succ haccept]
  exact hworks.reaches

end Sys2Proof.Machine

/-! # The session operations and the gate (45_session R125 to R127)

`open` is two steps, its acceptance and the write-config step of phase `CFG`; `close` and every refusal end in their
acceptance step, in which `done` and `fail` leave `phase` as it is (`done_of_idle`). What the gate refuses is said by
`gate_eq_some_iff`, once for the six gated operations. -/

namespace Sys2Proof.Machine

section
variable {s : State} {w r : Word}

/-! ## Acceptance -/

/-- A result delivered in IDLE is the only change (46_sequencer R147). -/
theorem done_of_idle (hp : s.phase = .idle) (v : Result) : s.done v = { s with delivered := s.delivered ++ [v] } := by
  rw [State.done, ← hp]

/-- A `maxMisses` that has an encoding is not changed by the width of its port (10_state R17). -/
theorem missesOperand_of_wf {cfg : Config} {baud : BitVec 4} {mm : Nat} (h : (Instr.openSession baud mm).WF cfg) :
    missesOperand cfg mm = mm :=
  Nat.mod_eq_of_lt (by simpa [Instr.WF, Instr.formError] using h)

/-! ## The gate -/

/-- What the gate refuses, and why: `NotOpen` comes before `Overrun` (45_session R127). -/
theorem gate_eq_some_iff {e : Err} :
    s.gate = some e ↔ (s.isOpen = false ∧ e = .notOpen) ∨ (s.isOpen = true ∧ s.ovr = true ∧ e = .overrun) := by
  rcases gate_cases s with ⟨ho, hg⟩ | ⟨ho, hv, hg⟩ | ⟨ho, hv, hg⟩
  · simp [ho, hg, eq_comm (b := e)]
  · simp [ho, hv, hg, eq_comm (b := e)]
  · simp [ho, hv, hg]

/-- A request the gate refuses is latched and answered with the gate's error (46_sequencer R136). -/
theorem accept_gated_of_refused {e : Err} (hp : s.phase = .idle) (hg : s.gate = some e) (i : Instr)
    (serve : State → State) :
    (s.accept i fun u => u.gated serve) = { s with arg := i, delivered := s.delivered ++ [.error e] } := by
  have hgate : { s with arg := i }.gate = some e := hg
  rw [State.accept, if_pos hp, State.gated, hgate]
  exact done_of_idle (s := { s with arg := i }) hp (.error e)

/-- Each of the six gated operations is the acceptance of a request served past the gate, latched as it is, since the
length of a `read` fits (46_sequencer R136). -/
theorem exec_eq_accept_gated {i : Instr} (hcfg : s.cfg.WF) (hi : i.WF s.cfg)
    (hop : (∃ b, i = .putByte b) ∨ i = .getByte ∨ i = .available ∨ i = .clear ∨ (∃ bytes, i = .write bytes) ∨
      ∃ len, i = .read len) :
    ∃ serve, exec i s = .next (s.accept i fun u => u.gated serve) := by
  rcases hop with ⟨b, rfl⟩ | rfl | rfl | rfl | ⟨bytes, rfl⟩ | ⟨len, rfl⟩
  · exact ⟨_, rfl⟩
  · exact ⟨_, rfl⟩
  · exact ⟨_, rfl⟩
  · exact ⟨_, rfl⟩
  · exact ⟨_, rfl⟩
  · rw [exec, execRead, lengthOperand_of_wf hcfg hi]
    exact ⟨_, rfl⟩

/-! ## The write-config step and the release -/

/-- In `CFG` any reply completes `open` (46_sequencer R137). -/
theorem exchange_of_cfg_word (hp : s.phase = .cfg) (ha : s.answer w = .word r) :
    s.exchange w = ((s.exchanged w (.word r)).openEffect (argMisses s.arg)).done .ok := by
  rw [exchange_of_word ha, State.exchangeReply, State.onAnswer, State.onReply]
  simp only [State.exchanged, hp, State.onReplyCfg]

/-- `close` takes nothing but the session parameters from a closed block (45_session R126). -/
theorem closeEffect_of_closed (ho : s.isOpen = false) : s.closeEffect = { s with session := none } := by
  rw [State.closeEffect, ← ho]

end

/-- Settles O12: the request is latched as it is, since its `maxMisses` fits. -/
theorem openOnAClosedBlockEntersCfg : Obligations.OpenOnAClosedBlockEntersCfg := by
  intro s baud mm hp ho hwf
  rw [exec, execOpenSession, missesOperand_of_wf hwf, State.accept, if_pos hp]
  simp [ho]

/-- Settles O14: the handle is asked for first, then the exchange completes `open` or ends it. -/
theorem writeConfCompletesOpen : Obligations.WriteConfCompletesOpen := by
  intro s baud mm w hp harg hw
  have hi : s.nextCommand = some (.writeConf baud) := by simp [State.nextCommand, hp, harg, argBaud]
  have hmm : argMisses s.handleAsked.arg = mm := congrArg argMisses harg
  rw [exec_command_of_cfg hi hw hp]
  refine ⟨fun hok r ha => ?_, fun hok ha => ?_, fun hok => ?_⟩
  · rw [if_pos hok, exchange_of_cfg_word (s := s.handleAsked) hp ((handleAsked_answer s w).trans ha), hmm]
    rfl
  · rw [if_pos hok, exchange_of_fail ((handleAsked_answer s w).trans ha)]
    rfl
  · rw [hok]
    rfl

/-- Settles O15: `close` ends in its acceptance step, with the handle released only if one is held. -/
theorem closeAlwaysLeavesTheBlockClosed : Obligations.CloseAlwaysLeavesTheBlockClosed := by
  intro s hp
  -- The collaborator's answer does not depend on the latched request.
  have hhandle : { s with arg := .closeSession }.handleOk = s.handleOk := rfl
  rw [exec, execCloseSession, State.accept, if_pos hp, hhandle]
  refine ⟨fun ho => ?_, fun ho hok => ?_, fun ho hok => ?_⟩
  · rw [if_neg (by simp [ho]), closeEffect_of_closed (by exact ho), done_of_idle (by exact hp)]
  · rw [if_pos ho, if_pos hok, done_of_idle (by exact hp)]
    rfl
  · rw [if_pos ho, if_neg (by simp [hok]), State.fail, done_of_idle (by exact hp)]
    rfl

/-- Settles O17: the gate's error is the answer to each of the six. -/
theorem gateRefusesClosedThenFaulted : Obligations.GateRefusesClosedThenFaulted := by
  intro s i e hp hcfg hi hop hrefused
  have hg : s.gate = some e := gate_eq_some_iff.2 hrefused
  obtain ⟨serve, hexec⟩ := exec_eq_accept_gated hcfg hi hop
  rw [hexec, accept_gated_of_refused hp hg]

end Sys2Proof.Machine

/-! # The moves of the phase machine (46_sequencer R145, R147, R149)

A step that takes an operation further does one of two things (`State.Advances`): it delivers one result and moves
`phase` to IDLE, or it delivers none and goes on in one of the phases that may follow. So the table of R145 and the one
result of R147 are read off one fact about each move (`idles_or_advances_of_moves`). -/

namespace Sys2Proof.Machine

/-- The phases in which an operation can go on after a step in the given phase; of IDLE, those it can begin in. -/
def Phase.successors : Phase → List Phase
  | .idle => [.cfg, .poll, .drain]
  | .cfg => []
  | .drain => [.drain, .poll]
  | .poll => [.step, .send, .poll]
  | .step => [.poll]
  | .send => [.drain, .poll]

/-- The table of 46_sequencer R145 allows the end of the operation and the phases that may follow, and nothing else. -/
theorem Phase.allowed_iff {p q : Phase} : p.allowed q = true ↔ q = .idle ∨ q ∈ p.successors := by
  cases p <;> cases q <;> decide

theorem Phase.idle_notMem_successors (p : Phase) : .idle ∉ p.successors := by
  cases p <;> decide

/-- After `before` had been delivered, a step ends in `t` with one result more and the operation complete, or with none
and the operation in one of the phases `ps`. -/
inductive State.Advances (t : State) (before : List Result) (ps : List Phase) : Prop where
  | completes (v : Result) (hp : t.phase = .idle) (hd : t.delivered = before ++ [v])
  | goesOn (p : Phase) (hmem : p ∈ ps) (hp : t.phase = p) (hd : t.delivered = before)

section
variable {s t : State} {i : Instr} {ps qs : List Phase}

theorem State.Advances.mono {before : List Result} (h : t.Advances before ps) (hsub : ps ⊆ qs) :
    t.Advances before qs := by
  cases h with
  | completes v hp hd => exact .completes v hp hd
  | goesOn p hmem hp hd => exact .goesOn p (hsub hmem) hp hd

theorem done_advances (s : State) (v : Result) (ps : List Phase) : (s.done v).Advances s.delivered ps :=
  .completes v rfl rfl

theorem fail_advances (s : State) (e : Err) (ps : List Phase) : (s.fail e).Advances s.delivered ps :=
  done_advances s (.error e) ps

/-! ## The acceptance of a request -/

theorem gated_advances {serve : State → State} (h : (serve s).Advances s.delivered ps) :
    (s.gated serve).Advances s.delivered ps := by
  unfold State.gated
  split
  · exact fail_advances s _ ps
  · exact h

theorem accept_advances {serve : State → State} (hp : s.phase = .idle)
    (h : (serve { s with arg := i }).Advances s.delivered ps) : (s.accept i serve).Advances s.delivered ps := by
  rw [State.accept, if_pos hp]
  exact h

/-- A request is refused with one result, or its operation begins (46_sequencer R136). -/
theorem exec_hop_advances (hp : s.phase = .idle) (hi : i.format = .hop) (h : exec i s = .next t) :
    t.Advances s.delivered Phase.idle.successors := by
  cases i with
  | readData | readConf | writeData _ | writeConf _ | reply _ => cases hi
  | openSession baud mm =>
    cases h
    refine accept_advances hp ?_
    split
    · exact fail_advances _ _ _
    · exact .goesOn .cfg (by decide) rfl rfl
  | closeSession =>
    cases h
    refine accept_advances hp ?_
    split_ifs <;> exact .completes _ rfl rfl
  | write bytes =>
    cases h
    refine accept_advances hp (gated_advances ?_)
    split_ifs
    · exact fail_advances _ _ _
    · exact fail_advances _ _ _
    · exact .goesOn .poll (by decide) rfl rfl
  | putByte _ =>
    cases h
    exact accept_advances hp (gated_advances (.goesOn .poll (by decide) rfl rfl))
  | getByte | available | clear | read _ =>
    cases h
    exact accept_advances hp (gated_advances (.goesOn .drain (by decide) rfl rfl))
  | hopUnassigned low =>
    cases h
    exact accept_advances hp (fail_advances _ _ _)

/-! ## The end of a Drain Loop -/

/-- A `putByte` is complete, or a `write` goes on with the status poll of its next byte (46_sequencer R143). -/
theorem finishPut_advances (s : State) : s.finishPut.Advances s.delivered [.poll] := by
  rcases finishPut_cases s with ⟨bytes, -, -, h⟩ | ⟨-, h⟩ <;> rw [h]
  · exact .goesOn .poll (by decide) rfl rfl
  · exact done_advances s .ok _

/-- A `read` is complete, or goes on with another Drain Loop (46_sequencer R144). -/
theorem continueRead_advances (s : State) (len : Int) (g : Option Byte) :
    (s.continueRead len g).Advances s.delivered [.drain] := by
  unfold State.continueRead
  dsimp only
  split
  · exact .completes _ rfl rfl
  · exact .goesOn .drain (by decide) rfl rfl

theorem finishDrain_advances (s : State) : s.finishDrain.Advances s.delivered Phase.drain.successors := by
  unfold State.finishDrain
  split
  · exact done_advances s _ _
  · exact done_advances s.resetEmpty _ _
  · exact (finishPut_advances s).mono (by decide)
  · rw [← pop_delivered s]
    split
    · exact done_advances s.pop.2 _ _
    · exact (continueRead_advances s.pop.2 _ _).mono (by decide)

/-! ## Replies -/

/-- An overrun completes the operation, so that only a hit and a miss have to be looked at. -/
theorem advances_of_captures {r : Word} {hit miss : State → State} (h : Captures s r hit miss t)
    (hhit : (hit (s.store (decodeDataByte r))).Advances s.delivered ps)
    (hmiss : (miss s).Advances s.delivered ps) : t.Advances s.delivered ps := by
  rcases h with ⟨-, -, rfl⟩ | ⟨-, -, rfl⟩ | ⟨-, rfl⟩
  · exact fail_advances { s with ovr := true } _ _
  · exact hhit
  · exact hmiss

/-- A reply takes the operation of its phase further (46_sequencer R137, R138, R140 to R142). -/
theorem onReply_advances (hp : s.phase ≠ .idle) (r : Word) : (s.onReply r).Advances s.delivered s.phase.successors := by
  cases h : s.phase with
  | idle => exact absurd h hp
  | cfg =>
    simp only [State.onReply, h]
    exact done_advances (s.openEffect _) .ok _
  | drain =>
    simp only [State.onReply, h]
    exact advances_of_captures (hit := fun m => { m with miss := 0 })
      (miss := fun m => { m with miss := m.miss + 1 }) (onReplyDrain_cases s r)
      (.goesOn .drain (by decide) h rfl) (.goesOn .drain (by decide) h rfl)
  | poll =>
    simp only [State.onReply, h, State.onReplyPoll]
    split_ifs
    · exact .goesOn .step (by decide) rfl rfl
    · exact .goesOn .send (by decide) rfl rfl
    · exact .goesOn .poll (by decide) rfl rfl
  | step =>
    simp only [State.onReply, h]
    exact advances_of_captures (hit := fun m => { m with phase := .poll })
      (miss := fun m => { m with phase := .poll }) (onReplyStep_cases s r) (.goesOn .poll (by decide) rfl rfl)
      (.goesOn .poll (by decide) rfl rfl)
  | send =>
    simp only [State.onReply, h]
    exact advances_of_captures (hit := fun m => m.startDrain .put) (miss := State.finishPut)
      (onReplySend_cases s r) (.goesOn .drain (by decide) rfl rfl) ((finishPut_advances s).mono (by decide))

/-! ## Every move -/

theorem phase_ne_idle_of_nextCommand (hc : s.nextCommand ≠ none) : s.phase ≠ .idle := fun hp =>
  hc (by simp [State.nextCommand, hp])

/-- A move takes an operation further, unless it begins and ends in IDLE with nothing delivered. -/
theorem idles_or_advances_of_moves (h : Moves s t) :
    (s.phase = .idle ∧ t.phase = .idle ∧ t.delivered = s.delivered) ∨ t.Advances s.delivered s.phase.successors := by
  cases h with
  | waits hp => exact .inl ⟨hp, hp, rfl⟩
  | @serves i rest _ hp hexec =>
    by_cases hi : i.format = .hop
    · rw [hp]
      exact .inr (exec_hop_advances (s := { s with requests := rest }) hp hi hexec)
    · cases (exec_idle_of_format_ne (s := { s with requests := rest }) hp hi).symm.trans hexec
      exact .inl ⟨hp, hp, rfl⟩
  | @replied answers wire handles handleOps r hc =>
    exact .inr (onReply_advances (s := s.withPorts answers wire handles handleOps) (phase_ne_idle_of_nextCommand hc) r)
  | @failed answers wire handles handleOps =>
    exact .inr (fail_advances (s.withPorts answers wire handles handleOps) _ _)
  | drained hp =>
    rw [hp]
    exact .inr (finishDrain_advances s)

end

/-- Settles O10: a move stays in IDLE, completes an operation or goes on in a phase that may follow. -/
theorem phaseMovesOnlyAlongTheTable : Obligations.PhaseMovesOnlyAlongTheTable := by
  intro s t hr h
  rcases idles_or_advances_of_moves (moves_of_step hr h) with ⟨-, ht, -⟩ | ⟨v, ht, -⟩ | ⟨p, hmem, ht, -⟩
  · exact Phase.allowed_iff.2 (.inl ht)
  · exact Phase.allowed_iff.2 (.inl ht)
  · exact Phase.allowed_iff.2 (.inr (ht ▸ hmem))

/-- Settles O44: an operation that goes on is not in IDLE, and one that completes has delivered its one result. -/
theorem completionDeliversOneResult : Obligations.CompletionDeliversOneResult := by
  intro s t hr h
  rcases idles_or_advances_of_moves (moves_of_step hr h) with ⟨hp, -, hd⟩ | ⟨v, ht, hd⟩ | ⟨p, hmem, ht, hd⟩
  · exact ⟨.inl hd, fun hne => absurd hp hne⟩
  · exact ⟨.inr ⟨v, hd, ht⟩, fun _ _ => ⟨v, hd⟩⟩
  · exact ⟨.inl hd, fun _ hidle => absurd (ht.symm.trans hidle ▸ hmem) (Phase.idle_notMem_successors _)⟩

/-- Settles O11: what a step does to the link is all that the statement speaks of. -/
theorem stepMakesAtMostItsOneExchange : Obligations.StepMakesAtMostItsOneExchange := by
  intro s t h
  rcases step_link h with hlink | ⟨i, w, hi, hw, hlink⟩
  · obtain ⟨hcfg, hwire, hanswers⟩ := Link.mk.inj hlink
    exact ⟨hcfg, .inl ⟨hwire, hanswers⟩⟩
  · obtain ⟨hcfg, hwire, hanswers⟩ := Link.mk.inj hlink
    exact ⟨hcfg, .inr ⟨i, w, hi, hw, hwire, hanswers⟩⟩

/-- A block closed after an overrun keeps `ovr` (45_session R126); its host now asks for a new session. -/
def overrunThenClosed : State := { State.reset with ovr := true, requests := [.openSession 0 0] }

theorem overrunThenClosed_inv : overrunThenClosed.Inv := resetHasTheInvariant.overrun.of_storage_eq rfl rfl

/-- Refutes O45: the acceptance of `open` moves `overrunThenClosed` to `CFG` without touching `ovr` (log 20). -/
theorem not_overrunFlagImpliesIdleAsR149Says : ¬ Obligations.OverrunFlagImpliesIdleAsR149Says := by
  intro h
  have hstep : step overrunThenClosed = .next { overrunThenClosed with
      requests := [], arg := .openSession 0 0, phase := .cfg } := rfl
  exact absurd (h _ _ overrunThenClosed_inv rfl (fun _ => rfl) hstep rfl) (by decide)

end Sys2Proof.Machine

/-! # What each phase runs, and what its step leaves (46_sequencer R135 to R144)

A step runs the row its phase calls for (`step_of_nextCommand`), and in a phase that captures its reply the next state
is one of three, told by `R` and the room in the ring (`Captures.hit_eq`, `Captures.overrun_eq`, `Captures.miss_eq`).
The end of a Drain Loop is that of the operation it serves: for `putByte` and `write` it is `finishPut`, for `read` the
test `readEnds`. -/

namespace Sys2Proof.Machine

/-! ## What a step runs -/

section
variable {s t : State} {i : Instr} {w r : Word}

/-- In a phase that sends a command word the step runs that word's row (46_sequencer R135). -/
theorem step_of_nextCommand (hr : s.rst = false) (hi : s.nextCommand = some i) : step s = exec i s := by
  have hp : s.phase ≠ .idle := phase_ne_idle_of_nextCommand (by simp [hi])
  rcases step_cases s with ⟨hr', -⟩ | ⟨-, hp', -⟩ | ⟨_, _, -, hp', -⟩ | ⟨j, -, -, hj, h⟩ | ⟨-, -, hnone, -⟩
  · simp [hr] at hr'
  · exact absurd hp' hp
  · exact absurd hp' hp
  · obtain rfl : i = j := Option.some.inj (hi.symm.trans hj)
    exact h
  · simp [hi] at hnone

/-- The step of a state in which a row has been placed runs that row. A request is taken from the port; a reply is the
answer to the status poll, which the step makes (log 22). -/
theorem step_place (s : State) (i : Instr) :
    step (s.place i) =
      exec i (if i.format = .hop then { s.place i with requests := s.requests.tail } else s.place i) := by
  cases i with
  | readData | readConf | writeData _ | writeConf _ => exact step_of_nextCommand rfl rfl
  | reply r =>
    have ha : (s.place (.reply r)).answer (encodeReadConfig s.cfg) = .word r := answer_scripted _ _ r s.answers.tail rfl
    calc step (s.place (.reply r))
        = exec .readConf (s.place (.reply r)) := step_of_nextCommand rfl rfl
      _ = exec (.reply r) (s.place (.reply r)) :=
        (replyHasTheEffectOfItsExchange.1 _ _ _ r rfl rfl ha nofun).symm
  | _ => exact step_of_request rfl rfl rfl

end

/-- Settles O7: a request, a command of the phase and a placed row are each what the step runs. -/
theorem stepRunsTheDecodedInstruction : Obligations.StepRunsTheDecodedInstruction := by
  refine ⟨fun s i rest hr hp hq => step_of_request hr hp hq, fun s i hr hwf hi => ?_, fun s nbits w i hrow => ?_⟩
  · obtain ⟨w, hw⟩ := commandWord_of_nextCommand hi
    exact ⟨step_of_nextCommand hr hi, w, hw, decode_cw w [] (decodeCommand_of_commandWord hwf hw)⟩
  · have hplace : s.withFetchWord nbits w = s.place i := by rw [State.withFetchWord, hrow]
    rw [hplace]
    exact step_place s i

/-- Settles O8: of the five kinds of step only waiting is one of IDLE without a request. -/
theorem idleBlockWaitsForARequest : Obligations.IdleBlockWaitsForARequest := by
  intro s hr hp hq
  rcases step_cases s with ⟨hr', -⟩ | ⟨-, -, -, h⟩ | ⟨i, rest, -, -, hq', -⟩ | ⟨i, -, hp', -⟩ | ⟨-, hp', -⟩
  · simp [hr] at hr'
  · exact h
  · simp [hq] at hq'
  · exact absurd hp hp'
  · simp [hp] at hp'

/-- Settles O9: each row and each kind of step answers with a next state. -/
theorem everyStepHasANextState : Obligations.EveryStepHasANextState := by
  constructor
  · intro i s
    obtain ⟨t, ht, -⟩ := exec_requests i s
    exact ⟨t, ht⟩
  · intro s
    obtain ⟨t, ht, -⟩ := step_requests_suffix s
    exact ⟨t, ht⟩

/-! ## The state after a reply -/

section
variable {s t : State} {i : Instr} {w r : Word} {hit miss : State → State}

/-- A command row answered with a word is the phase's reply to that word (46_sequencer R135). -/
theorem exec_command_of_word (hi : s.nextCommand = some i) (hw : commandWord s.cfg i = some w) (hp : s.phase ≠ .cfg)
    (ha : s.answer w = .word r) : exec i s = .next ((s.exchanged w (.word r)).onReply r) := by
  rw [exec_command_of_ne_cfg hi hw hp, exchange_of_word ha, State.exchangeReply, State.onAnswer]

/-- A hit with room is stored in slot `head`, and the phase goes on as after a hit (41_drain R82, 42_ring_buffer R90). -/
theorem Captures.hit_eq (h : Captures s r hit miss t) (hh : s.head < s.cfg.capacity)
    (hR : r.getLsbD s.cfg.rBit = true) (hroom : (s.head + 1) % s.cfg.capacity ≠ s.tail) :
    t = hit { s with
      buf := Memory.write s.buf s.head (r.extractLsb' 0 8), head := (s.head + 1) % s.cfg.capacity } := by
  rcases h with ⟨-, hfull, -⟩ | ⟨-, -, rfl⟩ | ⟨hmiss, -⟩
  · simp [full_eq_false_iff.2 hroom] at hfull
  · rw [State.store, headSlot_eq hh, decodeDataByte_eq_low]
    rfl
  · exact absurd (hR.symm.trans hmiss) (by decide)

/-- A hit on a full ring sets `ovr` and ends the operation with `Overrun` (42_ring_buffer R90, 60_exceptions R155). -/
theorem Captures.overrun_eq (h : Captures s r hit miss t) (hR : r.getLsbD s.cfg.rBit = true)
    (hfull : (s.head + 1) % s.cfg.capacity = s.tail) :
    t = { s with ovr := true, phase := .idle, delivered := s.delivered ++ [.error .overrun] } := by
  rcases h with ⟨-, -, rfl⟩ | ⟨-, hroom, -⟩ | ⟨hmiss, -⟩
  · rfl
  · exact absurd hfull (full_eq_false_iff.1 hroom)
  · exact absurd (hR.symm.trans hmiss) (by decide)

/-- A miss stores nothing (41_drain R82). -/
theorem Captures.miss_eq (h : Captures s r hit miss t) (hR : r.getLsbD s.cfg.rBit = false) : t = miss s := by
  rcases h with ⟨hhit, -⟩ | ⟨hhit, -⟩ | ⟨-, rfl⟩
  · exact absurd (hR.symm.trans hhit) (by decide)
  · exact absurd (hR.symm.trans hhit) (by decide)
  · rfl

theorem onReply_captures_of_drain (hp : s.phase = .drain) (r : Word) :
    Captures s r (fun m => { m with miss := 0 }) (fun m => { m with miss := m.miss + 1 }) (s.onReply r) := by
  simp only [State.onReply, hp]
  exact onReplyDrain_cases s r

theorem onReply_captures_of_step (hp : s.phase = .step) (r : Word) :
    Captures s r (fun m => { m with phase := .poll }) (fun m => { m with phase := .poll }) (s.onReply r) := by
  simp only [State.onReply, hp]
  exact onReplyStep_cases s r

theorem onReply_captures_of_send (hp : s.phase = .send) (r : Word) :
    Captures s r (fun m => m.startDrain .put) State.finishPut (s.onReply r) := by
  simp only [State.onReply, hp]
  exact onReplySend_cases s r

/-! ## The end of a byte -/

variable {bytes : List Byte}

/-- An operation that is no `write` ends with its byte (46_sequencer R143). -/
theorem finishPut_of_not_write (h : ∀ bytes, s.arg ≠ .write bytes) : s.finishPut = s.done .ok := by
  rcases finishPut_cases s with ⟨bytes, harg, -⟩ | ⟨-, he⟩
  · exact absurd harg (h bytes)
  · exact he

theorem finishPut_of_getElem? {b : Byte} (harg : s.arg = .write bytes) (hb : bytes[s.bi + 1]? = some b) :
    s.finishPut = { s with bi := s.bi + 1, txb := b, phase := .poll } := by
  obtain ⟨hlt, rfl⟩ := List.getElem?_eq_some_iff.1 hb
  exact finishPut_of_next_byte harg (List.drop_eq_getElem_cons hlt)

theorem finishPut_of_length_le (harg : s.arg = .write bytes) (hle : bytes.length ≤ s.bi + 1) :
    s.finishPut = s.done .ok :=
  finishPut_of_last_byte harg (List.drop_eq_nil_of_le hle)

end

/-- Settles O22: the reply to a status poll moves `phase` alone. -/
theorem readConfPollsReceiverBeforeTransmitter : Obligations.ReadConfPollsReceiverBeforeTransmitter := by
  intro s hp
  have hi : s.nextCommand = some .readConf := by simp [State.nextCommand, hp]
  have hne : s.phase ≠ .cfg := by simp [hp]
  refine ⟨fun r ha => ?_, fun ha => (failedExchangeEndsWithIoError s _ _ hi rfl ha).1 hne⟩
  rw [exec_command_of_word hi rfl hne ha, onReply_of_poll (s := s.exchanged _ _) hp]
  rfl

/-- Settles O23: the round is the capture of its reply in phase `DRAIN`. -/
theorem readDataDrainsOneReply : Obligations.ReadDataDrainsOneReply := by
  intro s r hp hbudget hh ha
  have hi : s.nextCommand = some .readData := by simp [State.nextCommand, hp, hbudget]
  have hc := onReply_captures_of_drain (s := s.exchanged (encodeReadData s.cfg) (.word r)) hp r
  rw [exec_command_of_word hi rfl (by simp [hp]) ha]
  refine ⟨fun hR hroom => ?_, fun hR hfull => ?_, fun hR => ?_⟩
  · exact congrArg _ (hc.hit_eq hh hR hroom)
  · exact congrArg _ (hc.overrun_eq hR hfull)
  · exact congrArg _ (hc.miss_eq hR)

/-- Settles O24: the drain step is the capture of its reply in phase `STEP`. -/
theorem readDataInTheWaitLoopStoresAndPolls : Obligations.ReadDataInTheWaitLoopStoresAndPolls := by
  intro s hp hh
  have hi : s.nextCommand = some .readData := by simp [State.nextCommand, hp]
  have hne : s.phase ≠ .cfg := by simp [hp]
  refine ⟨fun ha => (failedExchangeEndsWithIoError s _ _ hi rfl ha).1 hne, fun r ha => ?_⟩
  have hc := onReply_captures_of_step (s := s.exchanged (encodeReadData s.cfg) (.word r)) hp r
  rw [exec_command_of_word hi rfl hne ha]
  refine ⟨fun hR hroom => ?_, fun hR hfull => ?_, fun hR => ?_⟩
  · exact congrArg _ (hc.hit_eq hh hR hroom)
  · exact congrArg _ (hc.overrun_eq hR hfull)
  · exact congrArg _ (hc.miss_eq hR)

/-- Settles O25: the transmission is the capture of its reply in phase `SEND`, and a miss is the end of the byte. -/
theorem writeDataTransmitsTheByte : Obligations.WriteDataTransmitsTheByte := by
  intro s hp hh
  have hi : s.nextCommand = some (.writeData s.txb) := by simp [State.nextCommand, hp]
  have hne : s.phase ≠ .cfg := by simp [hp]
  refine ⟨fun ha => (failedExchangeEndsWithIoError s _ _ hi rfl ha).1 hne, fun r ha => ?_⟩
  have hc := onReply_captures_of_send (s := s.exchanged (encodeWriteData s.cfg s.txb) (.word r)) hp r
  rw [exec_command_of_word hi rfl hne ha]
  refine ⟨fun hR hroom => ?_, fun hR hfull => ?_, fun hR hput => ?_,
    fun bytes hR harg => ⟨fun b hb => ?_, fun hle => ?_⟩⟩
  · exact congrArg _ (hc.hit_eq hh hR hroom)
  · exact congrArg _ (hc.overrun_eq hR hfull)
  · exact congrArg _ ((hc.miss_eq hR).trans (finishPut_of_not_write hput))
  · exact congrArg _ ((hc.miss_eq hR).trans (finishPut_of_getElem? harg hb))
  · exact congrArg _ ((hc.miss_eq hR).trans (finishPut_of_length_le harg hle))

/-! ## The end of a Drain Loop -/

section
variable {s : State}

theorem finishDrain_of_avail (hret : s.ret = .avail) : s.finishDrain = s.done (.count s.len) := by
  simp only [State.finishDrain, hret]

theorem finishDrain_of_clear (hret : s.ret = .clear) : s.finishDrain = s.resetEmpty.done .ok := by
  simp only [State.finishDrain, hret]

theorem finishDrain_of_put (hret : s.ret = .put) : s.finishDrain = s.finishPut := by
  simp only [State.finishDrain, hret]

theorem finishDrain_of_getByte (hret : s.ret = .get) (harg : s.arg = .getByte) :
    s.finishDrain = s.pop.2.done (.byte s.pop.1) := by
  simp only [State.finishDrain, hret, harg, argLength]

theorem eq_magnitude_iff {len : Int} {n : Nat} (hl : len ≤ 0) : n = magnitude len ↔ (n : Int) = -len := by
  rw [magnitude]
  omega

/-- When a `read` ends, by the sign of its length (46_sequencer R144). -/
theorem readEnds_eq_true_iff {len : Int} {g : Option Byte} {n : Nat} :
    readEnds len g n = true ↔
      (0 < len ∧ (n : Int) = len) ∨ (len ≤ 0 ∧ g = none) ∨ (len < 0 ∧ g ≠ none ∧ (n : Int) = -len) := by
  by_cases hl : 0 < len
  · simp [readEnds, hl, Int.not_le.2 hl, Int.le_of_lt hl]
  · have hle := Int.not_lt.1 hl
    cases g <;> simp [readEnds, hl, hle, eq_magnitude_iff hle]

/-- When a `read` goes on, by the sign of its length (46_sequencer R144). -/
theorem readEnds_eq_false_iff_by_sign {len : Int} {g : Option Byte} {n : Nat} :
    readEnds len g n = false ↔
      (0 < len ∧ (n : Int) ≠ len) ∨ (len = 0 ∧ g ≠ none) ∨ (len < 0 ∧ g ≠ none ∧ (n : Int) ≠ -len) := by
  rw [← Bool.not_eq_true, readEnds_eq_true_iff]
  cases g <;> grind

end

/-- Settles O29: the end of the loop, by `ret`. -/
theorem drainLoopEndsByWhatItServes : Obligations.DrainLoopEndsByWhatItServes := by
  intro s hr hp hm
  rw [step_eq_finishDrain hr hp hm]
  refine ⟨fun hret => ?_, fun hret => ?_, fun hret harg => ?_, fun hret hput => ?_, fun bytes b hret harg hb => ?_,
    fun bytes hret harg hle => ?_⟩
  · exact congrArg _ (finishDrain_of_avail hret)
  · exact congrArg _ (finishDrain_of_clear hret)
  · rw [finishDrain_of_getByte hret harg, State.done, pop_delivered]
  · exact congrArg _ ((finishDrain_of_put hret).trans (finishPut_of_not_write hput))
  · exact congrArg _ ((finishDrain_of_put hret).trans (finishPut_of_getElem? harg hb))
  · exact congrArg _ ((finishDrain_of_put hret).trans (finishPut_of_length_le harg hle))

/-- Settles O30: the two conditions are those of `readEnds` and of its negation. -/
theorem readContinuesByItsLength : Obligations.ReadContinuesByItsLength := by
  intro s len hr hp hm hret harg
  rw [step_eq_finishDrain hr hp hm]
  rcases finishDrain_read_cases hret harg with ⟨hend, h⟩ | ⟨hend, h⟩
  · refine ⟨fun _ => ?_, fun hgo => ?_⟩
    · rw [h, State.done]
      simp only [pop_delivered]
    · exact absurd (hend.symm.trans (readEnds_eq_false_iff_by_sign.2 hgo)) (by decide)
  · refine ⟨fun hstop => ?_, fun _ => congrArg _ h⟩
    exact absurd ((readEnds_eq_true_iff.2 hstop).symm.trans hend) (by decide)

end Sys2Proof.Machine

/-! # Reset, and what a closed block forgets (70_reset R185, R188)

`State.live` drops the registers no later step reads before it writes them. That they have no influence is a fact about
one run: a step from `s` and a step from `s.live` end in states with the same live part (`step_live`). For two runs from
states with the same live part it is used once for each (`live_eq_of_step`). -/

namespace Sys2Proof.Machine

section
variable {s t u : State}

/-! ## What is live in each phase -/

theorem live_of_idle_open (hp : s.phase = .idle) (ho : s.isOpen = true) :
    s.live = { s with miss := 0, ret := .get, txb := 0, arg := .closeSession, bi := 0, out := [] } := by
  simp [State.live, hp, ho]

theorem live_of_idle_closed (hp : s.phase = .idle) (ho : s.isOpen = false) :
    s.live = { s with
      miss := 0, ret := .get, txb := 0, arg := .closeSession, bi := 0, out := []
      ovr := false, head := 0, tail := 0, buf := [], maxMisses := 0 } := by
  simp [State.live, hp, ho]

theorem live_of_cfg_closed (hp : s.phase = .cfg) (ho : s.isOpen = false) :
    s.live = { s with
      miss := 0, ret := .get, txb := 0, bi := 0, out := []
      ovr := false, head := 0, tail := 0, buf := [], maxMisses := 0 } := by
  simp [State.live, hp, ho]

theorem live_of_putting (hp : s.phase = .poll ∨ s.phase = .step ∨ s.phase = .send) :
    s.live = { s with miss := 0, ret := .get, bi := if (argBytes s.arg).isSome then s.bi else 0, out := [] } := by
  rcases hp with hp | hp | hp <;> simp [State.live, hp]

theorem live_of_drain (hp : s.phase = .drain) :
    s.live = { s with
      txb := 0
      bi := if s.ret = .put ∧ (argBytes s.arg).isSome then s.bi else 0
      out := if s.ret = .get ∧ (argLength s.arg).isSome then s.out else [] } := by
  simp [State.live, hp]

/-! ## What is live in several phases -/

theorem live_storage (ho : s.isOpen = true) : s.live.storage = s.storage := by
  unfold State.live
  cases s.phase <;> simp [ho, State.storage]

theorem live_arg (hp : s.phase ≠ .idle) : s.live.arg = s.arg := by
  unfold State.live
  cases h : s.phase <;> dsimp only <;> split <;> simp_all

@[simp] theorem live_live (s : State) : s.live.live = s.live := by
  unfold State.live
  cases s.phase <;> dsimp only <;> split <;> simp_all

/-- What `live` keeps is the same in two states with the same live part. -/
theorem eq_of_live_eq {α : Type} {f : State → α} (hf : ∀ u : State, f u.live = f u) (h : s.live = t.live) :
    f s = f t := by
  rw [← hf s, h, hf t]

theorem live_withPorts (s : State) (answers : List Answer) (wire : List Exchange) (handles : List Bool)
    (handleOps : Nat) :
    (s.withPorts answers wire handles handleOps).live = s.live.withPorts answers wire handles handleOps := by
  unfold State.live
  cases h : s.phase <;> simp only [State.withPorts, h] <;> split <;> rfl

theorem live_exchanged (s : State) (w : Word) (a : Answer) : (s.exchanged w a).live = s.live.exchanged w a := by
  refine (live_withPorts s s.answers.tail (s.wire ++ [⟨w, a⟩]) s.handles s.handleOps).trans ?_
  simp [State.withPorts, State.exchanged]

theorem live_handleAsked (s : State) : s.handleAsked.live = s.live.handleAsked := by
  refine (live_withPorts s s.answers s.wire s.handles.tail (s.handleOps + 1)).trans ?_
  simp [State.withPorts, State.handleAsked]

theorem live_withRequests (s : State) (rest : List Instr) :
    { s with requests := rest }.live = { s.live with requests := rest } := by
  unfold State.live
  cases s.phase <;> dsimp only <;> split <;> rfl

theorem live_nextCommand (s : State) : s.live.nextCommand = s.nextCommand := by
  cases hp : s.phase with
  | idle | poll | step => simp [State.nextCommand, hp]
  | cfg => simp [State.nextCommand, hp, live_arg]
  | drain => simp [State.nextCommand, hp, live_of_drain hp]
  | send => simp [State.nextCommand, hp, live_of_putting]

/-! ## The end of an operation -/

/-- IDLE keeps the ring of an open block, and no register of the sequencer; so the latched request makes no difference
either. -/
theorem done_live (s : State) (v : Result) : (s.live.done v).live = (s.done v).live := by
  rcases Bool.eq_false_or_eq_true s.isOpen with ho | ho
  · obtain ⟨-, hovr, hhead, htail, hbuf, hbudget⟩ := Storage.mk.inj (live_storage ho)
    rw [live_of_idle_open (s := s.live.done v) rfl (by simp [ho]), live_of_idle_open (s := s.done v) rfl ho]
    simp [State.done, hovr, hhead, htail, hbuf, hbudget]
  · rw [live_of_idle_closed (s := s.live.done v) rfl (by simp [ho]), live_of_idle_closed (s := s.done v) rfl ho]
    simp [State.done]

theorem fail_live (s : State) (e : Err) : (s.live.fail e).live = (s.fail e).live := done_live s (.error e)

/-- Nothing of the session before is in the one that `open` begins (45_session R125). -/
theorem openEffect_done_live (s : State) (mm : Nat) (v : Result) :
    ((s.live.openEffect mm).done v).live = ((s.openEffect mm).done v).live := by
  rw [live_of_idle_open (s := (s.live.openEffect mm).done v) rfl rfl,
    live_of_idle_open (s := (s.openEffect mm).done v) rfl rfl]
  simp [State.done, State.openEffect]

/-- `bi` is read for a `write` alone, and there it is live. -/
theorem finishPut_live (hp : s.phase = .send ∨ s.phase = .drain ∧ s.ret = .put) :
    s.live.finishPut.live = s.finishPut.live := by
  have harg : s.live.arg = s.arg := live_arg (by rcases hp with hp | ⟨hp, -⟩ <;> simp [hp])
  by_cases hw : ∃ bytes, s.arg = .write bytes
  · obtain ⟨bytes, hw⟩ := hw
    have hbi : s.live.bi = s.bi := by
      rcases hp with hp | ⟨hp, hret⟩
      · simp [live_of_putting (.inr (.inr hp)), hw, argBytes]
      · simp [live_of_drain hp, hret, hw, argBytes]
    cases hb : bytes[s.bi + 1]? with
    | some b =>
      rw [finishPut_of_getElem? hw hb, finishPut_of_getElem? (harg.trans hw) (hbi ▸ hb), hbi]
      rcases hp with hp | ⟨hp, -⟩
      · rw [live_of_putting (.inr (.inr hp))]
        rfl
      · rw [live_of_drain hp]
        rfl
    | none =>
      have hle := List.getElem?_eq_none_iff.1 hb
      rw [finishPut_of_length_le hw hle, finishPut_of_length_le (harg.trans hw) (hbi ▸ hle), done_live]
  · rw [finishPut_of_not_write fun bytes h => hw ⟨bytes, h⟩,
      finishPut_of_not_write fun bytes h => hw ⟨bytes, harg ▸ h⟩, done_live]

/-! ## The end of a Drain Loop -/

theorem finishDrain_of_no_length (hret : s.ret = .get) (hlen : argLength s.arg = none) :
    s.finishDrain = s.pop.2.done (.byte s.pop.1) := by
  simp only [State.finishDrain, hret, hlen]

theorem finishDrain_of_length {len : Int} (hret : s.ret = .get) (hlen : argLength s.arg = some len) :
    s.finishDrain = s.pop.2.continueRead len s.pop.1 := by
  simp only [State.finishDrain, hret, hlen]

@[simp] theorem pop_ret (s : State) : s.pop.2.ret = s.ret := by
  rcases pop_cases s with ⟨-, h⟩ | ⟨-, h⟩ <;> rw [h]

@[simp] theorem pop_out (s : State) : s.pop.2.out = s.out := by
  rcases pop_cases s with ⟨-, h⟩ | ⟨-, h⟩ <;> rw [h]

/-- In a Drain Loop `pop` sees the ring alone, which is live. -/
theorem pop_live (hp : s.phase = .drain) :
    s.live.pop = (s.pop.1, { s.pop.2 with txb := s.live.txb, bi := s.live.bi, out := s.live.out }) := by
  rw [live_of_drain hp]
  rcases pop_cases s with ⟨he, hpop⟩ | ⟨hne, hpop⟩
  · rw [hpop, pop_of_empty (by exact he)]
  · rw [hpop, pop_of_not_empty (by exact hne)]
    rfl

/-- A `read` goes on without `txb` and `bi`. -/
theorem continueRead_live (hret : s.ret = .get) (len : Int) (g : Option Byte) (txb : Byte) (bi : Nat) :
    ({ s with txb := txb, bi := bi }.continueRead len g).live = (s.continueRead len g).live := by
  unfold State.continueRead
  dsimp only
  split
  · rfl
  · simp [State.live, hret]

theorem finishDrain_live (hp : s.phase = .drain) : s.live.finishDrain.live = s.finishDrain.live := by
  have hret : s.live.ret = s.ret := by rw [live_of_drain hp]
  have harg : s.live.arg = s.arg := live_arg (by simp [hp])
  cases h : s.ret with
  | avail =>
    rw [finishDrain_of_avail h, finishDrain_of_avail (hret.trans h), live_of_drain hp]
    rfl
  | clear =>
    rw [finishDrain_of_clear h, finishDrain_of_clear (hret.trans h), live_of_drain hp]
    rfl
  | put =>
    rw [finishDrain_of_put h, finishDrain_of_put (hret.trans h)]
    exact finishPut_live (.inr ⟨hp, h⟩)
  | get =>
    cases hlen : argLength s.arg with
    | none =>
      rw [finishDrain_of_no_length h hlen, finishDrain_of_no_length (hret.trans h) (harg ▸ hlen), pop_live hp]
      rfl
    | some len =>
      have hout : s.live.out = s.pop.2.out := by simp [live_of_drain hp, h, hlen]
      rw [finishDrain_of_length h hlen, finishDrain_of_length (hret.trans h) (harg ▸ hlen), pop_live hp, hout]
      exact continueRead_live ((pop_ret s).trans h) len _ _ _

/-! ## Replies -/

/-- A capture sees the ring alone, which is live in the phases that capture their reply. -/
theorem live_of_captures {r : Word} {hit miss : State → State}
    (hp : s.phase = .drain ∨ s.phase = .step ∨ s.phase = .send) (ht : Captures s r hit miss t)
    (hu : Captures s.live r hit miss u) (hhit : ∀ m, m.phase = s.phase → (hit m.live).live = (hit m).live)
    (hmiss : (miss s.live).live = (miss s).live) : u.live = t.live := by
  have hR : s.live.replyR r = s.replyR r := by simp [State.replyR]
  have hring : s.live.full = s.full ∧ s.live.store (decodeDataByte r) = (s.store (decodeDataByte r)).live ∧
      { s.live with ovr := true } = { s with ovr := true }.live := by
    rcases hp with hp | hp
    · rw [live_of_drain hp, live_of_drain (by exact hp), live_of_drain (by exact hp)]
      exact ⟨rfl, rfl, rfl⟩
    · rw [live_of_putting (.inr hp), live_of_putting (.inr (by exact hp)), live_of_putting (.inr (by exact hp))]
      exact ⟨rfl, rfl, rfl⟩
  obtain ⟨hfull, hstore, hovr⟩ := hring
  rw [Captures, hR, hfull, hstore, hovr] at hu
  rcases ht with ⟨h, hf, rfl⟩ | ⟨h, hf, rfl⟩ | ⟨h, rfl⟩
  · obtain rfl : u = _ := by simpa [h, hf] using hu
    exact fail_live _ _
  · obtain rfl : u = _ := by simpa [h, hf] using hu
    exact hhit _ rfl
  · obtain rfl : u = _ := by simpa [h] using hu
    exact hmiss

/-- A Drain Loop goes on with what was live and a new count of misses. -/
theorem live_withMiss (hp : s.phase = .drain) (miss : Nat) :
    { s.live with miss := miss }.live = { s with miss := miss }.live := by
  simp +contextual [State.live, hp]

/-- The wait loop and the transmission use the same registers. -/
theorem live_withPhase {p : Phase} (hs : s.phase = .poll ∨ s.phase = .step ∨ s.phase = .send)
    (hp : p = .poll ∨ p = .step ∨ p = .send) : { s.live with phase := p }.live = { s with phase := p }.live := by
  rw [live_of_putting hs, live_of_putting hp, live_of_putting hp]
  simp +contextual

theorem startDrain_put_live (hp : s.phase = .send) : (s.live.startDrain .put).live = (s.startDrain .put).live := by
  simp +contextual [State.live, hp, State.startDrain]

theorem onReply_live (s : State) (r : Word) : (s.live.onReply r).live = (s.onReply r).live := by
  cases hp : s.phase with
  | idle => simp [State.onReply, hp]
  | cfg =>
    simp only [State.onReply, live_arg (s := s) (by simp [hp]), State.live_phase, hp, State.onReplyCfg]
    exact openEffect_done_live s _ _
  | drain =>
    have hmiss : s.live.miss = s.miss := by rw [live_of_drain hp]
    refine live_of_captures (.inl hp) (onReply_captures_of_drain hp r)
      (onReply_captures_of_drain (s := s.live) (by simp [hp]) r) (fun m hm => live_withMiss (hm.trans hp) 0) ?_
    rw [hmiss]
    exact live_withMiss hp _
  | poll =>
    rw [onReply_of_poll hp, onReply_of_poll (s := s.live) (by simp [hp])]
    refine (live_withPhase (.inl hp) ?_).trans (by rw [State.live_cfg])
    split_ifs <;> simp
  | step =>
    exact live_of_captures (.inr (.inl hp)) (onReply_captures_of_step hp r)
      (onReply_captures_of_step (s := s.live) (by simp [hp]) r)
      (fun m hm => live_withPhase (.inr (.inl (hm.trans hp))) (.inl rfl)) (live_withPhase (.inr (.inl hp)) (.inl rfl))
  | send =>
    exact live_of_captures (.inr (.inr hp)) (onReply_captures_of_send hp r)
      (onReply_captures_of_send (s := s.live) (by simp [hp]) r) (fun m hm => startDrain_put_live (hm.trans hp))
      (finishPut_live (.inl hp))

theorem exchange_live (s : State) (w : Word) : (s.live.exchange w).live = (s.exchange w).live := by
  have ha : s.live.answer w = s.answer w := by simp [State.answer]
  rw [State.exchange, State.exchange, ha, ← live_exchanged]
  cases s.answer w with
  | word r => exact onReply_live _ r
  | fail => exact fail_live _ .ioError

/-! ## The acceptance of a request -/

/-- In IDLE the request is latched, and what serves it is all that could tell the two states apart. -/
theorem accept_live {i : Instr} {serve : State → State} (hp : s.phase = .idle)
    (h : (serve { s.live with arg := i }).live = (serve { s with arg := i }).live) :
    (s.live.accept i serve).live = (s.accept i serve).live := by
  rw [State.accept, State.accept, if_pos hp, if_pos ((State.live_phase s).trans hp), h]

/-- The gate refuses a closed block whatever `ovr` is, and of an open one `ovr` is live (45_session R127). -/
theorem accept_gated_live {i : Instr} {serve : State → State} (hp : s.phase = .idle)
    (h : s.isOpen = true → (serve { s.live with arg := i }).live = (serve { s with arg := i }).live) :
    (s.live.accept i fun u => u.gated serve).live = (s.accept i fun u => u.gated serve).live := by
  refine accept_live hp ?_
  have hgate : { s.live with arg := i }.gate = { s with arg := i }.gate := by
    rcases Bool.eq_false_or_eq_true s.isOpen with ho | ho
    · simp [live_of_idle_open hp ho, State.gate]
    · simp [State.gate, ho]
  rw [State.gated, State.gated, hgate]
  rcases gate_cases { s with arg := i } with ⟨-, hg⟩ | ⟨-, -, hg⟩ | ⟨ho, -, hg⟩ <;> rw [hg]
  · exact done_live s _
  · exact done_live s _
  · exact h ho

/-- In IDLE no instruction reads what is not live. -/
theorem exec_idle_live (hp : s.phase = .idle) (i : Instr) :
    ∃ t u, exec i s = .next t ∧ exec i s.live = .next u ∧ u.live = t.live := by
  have hp' : s.live.phase = .idle := (State.live_phase s).trans hp
  cases i with
  | readData | readConf | writeData _ | writeConf _ | reply _ =>
    exact ⟨s, s.live, exec_idle_of_format_ne hp nofun, exec_idle_of_format_ne hp' nofun, live_live s⟩
  | openSession baud mm =>
    refine ⟨_, _, rfl, rfl, ?_⟩
    rw [State.live_cfg]
    refine accept_live hp ?_
    rcases Bool.eq_false_or_eq_true s.isOpen with ho | ho
    · rw [if_pos ((State.live_isOpen s).trans ho), if_pos ho]
      exact done_live s _
    · rw [if_neg (by simp [ho]), if_neg (by simp [ho]), live_of_idle_closed hp ho]
      simp [State.live, ho]
  | closeSession =>
    refine ⟨_, _, rfl, rfl, accept_live hp ?_⟩
    have hok : { s.live with arg := .closeSession }.handleOk = { s with arg := .closeSession }.handleOk := by
      simp [State.handleOk]
    rw [hok]
    rcases Bool.eq_false_or_eq_true s.isOpen with ho | ho
    · rw [live_of_idle_open hp ho]
      split_ifs <;> rfl
    · rw [live_of_idle_closed hp ho]
      split_ifs <;> rfl
  | write bytes =>
    refine ⟨_, _, rfl, rfl, accept_gated_live hp fun ho => ?_⟩
    rw [live_of_idle_open hp ho]
    dsimp only
    split_ifs <;> rfl
  | putByte _ | getByte | available | clear =>
    refine ⟨_, _, rfl, rfl, accept_gated_live hp fun ho => ?_⟩
    rw [live_of_idle_open hp ho]
    rfl
  | read len =>
    refine ⟨_, _, rfl, rfl, ?_⟩
    rw [State.live_cfg]
    refine accept_gated_live hp fun ho => ?_
    rw [live_of_idle_open hp ho]
    rfl
  | hopUnassigned low => exact ⟨_, _, rfl, rfl, accept_live hp (done_live s _)⟩

/-! ## Steps -/

/-- A step does not read what is not live. -/
theorem step_live (h : step s = .next t) : ∃ u, step s.live = .next u ∧ u.live = t.live := by
  have hrst : ∀ {b}, s.rst = b → s.live.rst = b := fun hr => (State.live_rst s).trans hr
  have hphase : ∀ {p}, s.phase = p → s.live.phase = p := fun hp => (State.live_phase s).trans hp
  rcases step_cases s with
    ⟨hr, hs⟩ | ⟨hr, hp, hq, hs⟩ | ⟨i, rest, hr, hp, hq, hs⟩ | ⟨i, hr, hp, hi, -⟩ | ⟨hr, hp, hc, hs⟩
  · cases hs.symm.trans h
    exact ⟨s.live.applyReset, by rw [step, if_pos (hrst hr)], by simp [State.applyReset]⟩
  · cases hs.symm.trans h
    exact ⟨s.live, idleBlockWaitsForARequest s.live (hrst hr) (hphase hp) ((State.live_requests s).trans hq),
      live_live s⟩
  · obtain ⟨t', u, ht, hu, hlive⟩ := exec_idle_live (s := { s with requests := rest }) hp i
    cases ht.symm.trans (hs.symm.trans h)
    rw [live_withRequests] at hu
    exact ⟨u, (step_of_request (hrst hr) (hphase hp) ((State.live_requests s).trans hq)).trans hu, hlive⟩
  · by_cases hcfg : s.phase = .cfg
    · cases (step_of_cfg hr hcfg).symm.trans h
      have hok : s.live.handleOk = s.handleOk := by simp [State.handleOk]
      refine ⟨_, step_of_cfg (hrst hr) (hphase hcfg), ?_⟩
      rw [hok, State.live_cfg, live_arg hp, ← live_handleAsked]
      split
      · exact exchange_live _ _
      · exact fail_live _ _
    · obtain ⟨w, hw⟩ := commandWord_of_nextCommand hi
      cases (step_eq_exchange hr hcfg hi hw).symm.trans h
      exact ⟨_, step_eq_exchange (hrst hr) (by simpa using hcfg) ((live_nextCommand s).trans hi) (by simpa using hw),
        exchange_live s w⟩
  · cases hs.symm.trans h
    have hm : s.maxMisses ≤ s.miss := by simpa [State.nextCommand, hp] using hc
    refine ⟨_, step_eq_finishDrain (hrst hr) (hphase hp) ?_, finishDrain_live hp⟩
    rw [live_of_drain hp]
    exact hm

theorem live_eq_of_step {s' t' : State} (h : s.live = s'.live) (ht : step s = .next t) (ht' : step s' = .next t') :
    t.live = t'.live := by
  obtain ⟨u, hu, hlive⟩ := step_live ht
  obtain ⟨u', hu', hlive'⟩ := step_live ht'
  rw [h, hu'] at hu
  cases hu
  exact hlive.symm.trans hlive'

end

/-- Settles O46: the two closed blocks have the same live part, and so have their next states. -/
theorem closedBlockForgetsItsSession : Obligations.ClosedBlockForgetsItsSession := by
  constructor
  · intro s s' t t' ho ho' _ hr' hp hphase harg hcfg hrequests hdelivered hanswers hwire hhandles hops hsession ht ht'
    have hsame : s.live = s'.live := by
      rcases hp with hp | hp
      · rw [live_of_idle_closed hp ho, live_of_idle_closed (hphase.symm.trans hp) ho']
        simp [*]
      · rw [live_of_cfg_closed hp ho, live_of_cfg_closed (hphase.symm.trans hp) ho', harg hp]
        simp [*]
    have h := live_eq_of_step hsame ht ht'
    have hphase' := eq_of_live_eq State.live_phase h
    have hopen' := eq_of_live_eq State.live_isOpen h
    refine ⟨hphase', hopen', eq_of_live_eq State.live_delivered h, eq_of_live_eq State.live_wire h,
      eq_of_live_eq State.live_requests h, eq_of_live_eq State.live_answers h, eq_of_live_eq State.live_session h,
      eq_of_live_eq State.live_cfg h, eq_of_live_eq State.live_handles h, eq_of_live_eq State.live_handleOps h,
      fun hc => ?_, fun hopen => ?_⟩
    · rw [← live_arg (s := t) (by simp [hc]), h, live_arg (by simp [← hphase', hc])]
    · have hstorage : t.storage = t'.storage := by
        rw [← live_storage hopen, h, live_storage (hopen'.symm.trans hopen)]
      obtain ⟨-, hovr, hhead, htail, hbuf, hbudget⟩ := Storage.mk.inj hstorage
      exact ⟨hovr, hhead, htail, hbuf, hbudget⟩
  · intro s s' t t' hsame ht ht'
    have h := live_eq_of_step hsame ht ht'
    exact ⟨h, eq_of_live_eq State.live_delivered h, eq_of_live_eq State.live_wire h,
      eq_of_live_eq State.live_isOpen h, eq_of_live_eq State.live_phase h⟩

/-- Settles O38: the step is `applyReset`, whatever the phase. -/
theorem resetAbandonsTheOperation : Obligations.ResetAbandonsTheOperation := by
  refine ⟨fun s t hr h => ?_, rfl, rfl, rfl, rfl, rfl⟩
  have hs : step s = .next s.applyReset := by rw [step, if_pos hr]
  cases hs.symm.trans h
  exact ⟨rfl, rfl, rfl, rfl, rfl, rfl, rfl, rfl, rfl, rfl, rfl, rfl⟩

end Sys2Proof.Machine

/-! # Results and recovery (60_exceptions R156, R159, R160), and loops without a bound (70_reset R190, R191)

Recovery from an overrun is a `close` and an `open`, and the `open` succeeds on any closed block (`reaches_opened`). A
loop without a bound is a step that leads back to where it began: to the status poll with one exchange more
(`step_of_unready_status`), or to the very same state (`step_of_blocking_read`). -/

namespace Sys2Proof.Machine

/-! ## Results -/

/-- Settles O58: the code of a result is that of its error, and 0 without one. -/
theorem statusCodesOfResults : Obligations.StatusCodesOfResults :=
  ⟨rfl, fun _ => rfl, fun _ => rfl, fun _ => rfl, rfl, rfl, rfl, rfl, rfl⟩

/-- Settles O13: the refusal ends in the acceptance step, which delivers it and latches the request alone. -/
theorem openOnAnOpenSessionIsRefused : Obligations.OpenOnAnOpenSessionIsRefused := by
  intro s baud mm hp ho hwf
  refine ⟨?_, rfl⟩
  rw [exec, execOpenSession, missesOperand_of_wf hwf, State.accept, if_pos hp, if_pos ho, State.fail,
    done_of_idle (by exact hp)]

/-! ## Recovery from an overrun -/

theorem openSession_wf_iff {cfg : Config} {baud : BitVec 4} {mm : Nat} :
    (Instr.openSession baud mm).WF cfg ↔ mm < 2 ^ cfg.missW := by
  simp [Instr.WF, Instr.formError]

/-- The block that has accepted an `open` (46_sequencer R136). -/
def State.opening (s : State) (baud : BitVec 4) (mm : Nat) (rest : List Instr) : State :=
  { s with requests := rest, arg := .openSession baud mm, phase := .cfg }

/-- The block after the write-config step of a successful `open`, whose reply was `r` (46_sequencer R137). -/
def State.opened (s : State) (baud : BitVec 4) (mm : Nat) (rest : List Instr) (r : Word) : State :=
  (((s.opening baud mm rest).handleAsked.exchanged (encodeWriteConfig s.cfg (openPayload s.cfg baud))
    (.word r)).openEffect mm).done .ok

section
variable {s : State} {baud : BitVec 4} {mm : Nat} {rest : List Instr} {r : Word} {more : List Answer}
  {others : List Bool}

/-- The handle is opened and the write-config exchange answered (46_sequencer R137). -/
theorem step_of_opening (hr : s.rst = false) (ha : s.answers = .word r :: more) (hh : s.handles = true :: others) :
    step (s.opening baud mm rest) = .next (s.opened baud mm rest r) := by
  have hok : (s.opening baud mm rest).handleOk = true := by simp [State.handleOk, State.opening, hh]
  rw [step_of_cfg (s := s.opening baud mm rest) hr rfl, if_pos hok,
    exchange_of_cfg_word (s := (s.opening baud mm rest).handleAsked) rfl (answer_scripted _ _ r more ha)]
  rfl

/-- `open` on a closed block takes two steps, its acceptance and the write-config step (46_sequencer R136, R137). -/
theorem reaches_opened (hr : s.rst = false) (hp : s.phase = .idle) (ho : s.isOpen = false)
    (hq : s.requests = .openSession baud mm :: rest) (hmm : mm < 2 ^ s.cfg.missW) (ha : s.answers = .word r :: more)
    (hh : s.handles = true :: others) : Reaches 2 s (s.opened baud mm rest r) := by
  have haccept : step s = .next (s.opening baud mm rest) := (step_of_request hr hp hq).trans
    (openOnAClosedBlockEntersCfg { s with requests := rest } baud mm hp ho (openSession_wf_iff.2 hmm))
  exact (reaches_succ haccept).2 ((reaches_succ (step_of_opening hr ha hh)).2 (reaches_zero.2 rfl))

end

/-- Settles O55: `close` leaves the closed block from which `open` succeeds, whatever `ovr` is. -/
theorem closeAndOpenRecoverFromAnOverrun : Obligations.CloseAndOpenRecoverFromAnOverrun := by
  intro s baud mm rest r more others hr hp ho _ hq hmm ha hh
  have hclose := (step_of_request hr hp hq).trans
    ((closeAlwaysLeavesTheBlockClosed { s with requests := .openSession baud mm :: rest } hp).2.1 ho
      (by simp [State.handleOk, hh]))
  refine ⟨_, (reaches_succ hclose).2 (reaches_opened hr hp rfl rfl hmm ha (congrArg List.tail hh)), rfl, rfl, rfl, ?_,
    rfl, rfl, ?_, rfl⟩
  · exact List.eq_nil_of_length_eq_zero ((contents_length _).trans (len_eq_zero_of_empty rfl))
  · exact List.append_assoc s.delivered [.ok] [.ok]

/-! ## Loops without a bound -/

section
variable {s : State}

/-- The wait loop of `putByte` has made a status poll for each of these replies and has gone on polling. -/
def State.polled (s : State) (replies : List Word) (more : List Answer) : State :=
  { s with
    answers := more
    wire := s.wire ++ replies.map fun r => ⟨encodeReadConfig s.cfg, .word r⟩ }

/-- A status with `R = 0` and `T = 0` keeps the wait loop polling (46_sequencer R140). -/
theorem step_of_unready_status {r : Word} {more : List Answer} (hr : s.rst = false) (hp : s.phase = .poll)
    (ha : s.answers = .word r :: more) (hR : r.getLsbD s.cfg.rBit = false) (hT : r.getLsbD s.cfg.tBit = false) :
    step s = .next (s.polled [r] more) := by
  have hi : s.nextCommand = some .readConf := by simp [State.nextCommand, hp]
  rw [step_of_nextCommand hr hi, exec_command_of_word hi rfl (by simp [hp]) (answer_scripted s _ r more ha),
    onReply_of_poll (s := s.exchanged _ _) hp]
  simp [State.exchanged, State.polled, hR, hT, hp, ha]

/-- Each such status takes one step of the wait loop (60_exceptions R170). -/
theorem works_of_unready_statuses {replies : List Word} {more : List Answer} (hr : s.rst = false)
    (hp : s.phase = .poll) (ha : s.answers = replies.map .word ++ more)
    (hnot : ∀ r ∈ replies, r.getLsbD s.cfg.rBit = false ∧ r.getLsbD s.cfg.tBit = false) :
    Works replies.length s (s.polled replies more) := by
  induction replies generalizing s with
  | nil =>
    obtain rfl : s.answers = more := ha
    have hsame : s.polled [] s.answers = s := by simp [State.polled]
    rw [hsame]
    exact .refl s
  | cons r rest ih =>
    obtain ⟨⟨hR, hT⟩, hrest⟩ := List.forall_mem_cons.1 hnot
    have hsame : (s.polled [r] (rest.map .word ++ more)).polled rest more = s.polled (r :: rest) more := by
      simp [State.polled]
    rw [← hsame]
    exact .head (by simp [hp]) (step_of_unready_status hr hp ha hR hT) (ih hr hp rfl hrest)

/-- Settles O56: the `n` steps from `s` are `n` status polls, and end nowhere else. -/
theorem waitLoopHasNoBound : Obligations.WaitLoopHasNoBound := by
  rintro n s t replies more hr hp rfl ha hnot h
  exact reaches_zero.1 ((works_of_unready_statuses hr hp ha hnot).reaches_add.1 h)

/-- A state that is its own next state is never left. -/
theorem reaches_self (h : step s = .next s) (n : Nat) : Reaches n s s := by
  induction n with
  | zero => exact reaches_zero.2 rfl
  | succ n ih => exact (reaches_succ h).2 ih

/-- Without a budget the Drain Loop of a blocking `read` ends at once, and an empty ring gives it no byte
(46_sequencer R138, R144). -/
theorem step_of_blocking_read {len : Int} (hr : s.rst = false) (hp : s.phase = .drain) (hret : s.ret = .get)
    (harg : s.arg = .read len) (hpos : 0 < len) (hout : (s.out.length : Int) < len) (hempty : s.head = s.tail)
    (hbudget : s.maxMisses = 0) (hmiss : s.miss = 0) : step s = .next s := by
  have hpop := pop_of_empty hempty
  have hgo := (readContinuesByItsLength s len hr hp (by omega) hret harg).2
    (.inl ⟨hpos, by simpa [hpop] using hout.ne⟩)
  rw [hgo, hpop]
  simp [← hmiss, ← hp]

end

/-- Settles O57: the state is its own next state. -/
theorem blockingReadWithoutBudgetSpins : Obligations.BlockingReadWithoutBudgetSpins :=
  fun n _ _ hr hp hret harg hpos hout hempty hbudget hmiss =>
    reaches_self (step_of_blocking_read hr hp hret harg hpos hout hempty hbudget hmiss) n

end Sys2Proof.Machine
